-- ==== Sys2Proof/Word.lean ====
section
/-!
DEFINITION. The sizes the C16's manual counts in: octets, 16-bit words, and the numbers of stations, locks, barriers,
parts and watch slots (00_scope.md, Table 2).
-/

namespace Sys2Proof

/-- An octet: 8 bits (00_scope.md section 6). -/
abbrev Octet := BitVec 8

/-- A 16-bit value: an order number (R82), a status word (R38), a check (R73). -/
abbrev Word16 := BitVec 16

/-- A station number 0 to 15 (00_scope.md, Table 3). -/
abbrev Station := Fin 16

/-- A lock number 0 to 31 (R1). -/
abbrev LockNo := Fin 32

/-- A barrier number 0 to 7 (R23). -/
abbrev BarrierNo := Fin 8

/-- A part number 0 to 12 (R143). -/
abbrev PartNo := Fin 13

/-- A watch slot number 0 to 3 (R42). -/
abbrev SlotNo := Fin 4

/-- A set of stations, station s at bit s (12_formats.md). -/
abbrev StationSet := BitVec 16

/-- A set of parts, part p at bit p (12_formats.md). -/
abbrev PartSet := BitVec 13

end Sys2Proof
end

