-- ==== Sys2Proof/Syntax.lean ====
section
/-!
DEFINITION. The commands of the C16: one constructor of `Instr` for each row of spec/opcode_table.json, with what the
environment hands over at that step.
-/

namespace Sys2Proof

/-- A character as the Line Engine hands it to the Acceptance Unit: the 8 data bits, and whether its stop bit was read
dominant (R97). -/
structure Character where
  /-- The 8 data bits. -/
  data : Octet
  /-- The stop bit was read dominant: a framing error. -/
  stopDominant : Bool
deriving DecidableEq, Repr

/-- What the Line Engine saw in the slot window (R109). -/
inductive SlotSeen where
  /-- No dominant level in the window. -/
  | nothing
  /-- A start bit that begins within the first 3 T of the window, and the 8 data bits read after it. -/
  | startBit (data : Octet)
  /-- A dominant level that first appears more than 3 T into the window. -/
  | lateDominant
deriving DecidableEq, Repr

/-- The offsets a plain register write reaches (R157): REQUEST A to D at offsets 1 to 4, and offset 6, which has no
effect. The writes at offsets 0, 5 and 7 are commands of their own. -/
inductive WriteOffset where
  | requestA
  | requestB
  | requestC
  | requestD
  | offset6
deriving DecidableEq, Repr

/-- The commands the block takes, in the order of spec/opcode_table.json. -/
inductive Instr where
  /-- POWER_ON_RESET (R131): release of RESETn, with the levels of the strap pins. -/
  | powerOnReset (station : Station) (bitRate : BitVec 2)
  /-- RESTART (R132, R172): a write to PORT CONTROL of an octet with the RESTART bit set. -/
  | restart (octet : Octet)
  /-- CLEAR_OVERRUN (R167, R172): a write to PORT CONTROL of an octet with CLEAR OVERRUN set and RESTART clear. -/
  | clearOverrun (octet : Octet)
  /-- REWIND (R166, R172): a write to PORT CONTROL of an octet with REWIND set and RESTART clear. -/
  | rewind (octet : Octet)
  /-- IRQ_ENABLE (R168): a write to IRQ ENABLE. -/
  | irqEnable (octet : Octet)
  /-- INDICATION_WINDOW (R166): a read of INDICATION WINDOW. -/
  | indicationWindow
  /-- REGISTER_WRITE (R157): a write to REQUEST A to D or to offset 6. -/
  | registerWrite (offset : WriteOffset) (octet : Octet)
  /-- COMMIT_UNKNOWN_KIND (R158): a write to COMMIT of the tag, REQUEST A holding no request kind's code. -/
  | commitUnknownKind (tag : Octet)
  /-- COMMIT_JOIN (R161): a write to COMMIT of the tag, REQUEST A holding the code of JOIN. -/
  | commitJoin (tag : Octet)
  /-- COMMIT_LEAVE (R162). -/
  | commitLeave (tag : Octet)
  /-- COMMIT_CLAIM (R12). -/
  | commitClaim (tag : Octet)
  /-- COMMIT_TRY_CLAIM (R12). -/
  | commitTryClaim (tag : Octet)
  /-- COMMIT_RELEASE (R13). -/
  | commitRelease (tag : Octet)
  /-- COMMIT_WITHDRAW (R14). -/
  | commitWithdraw (tag : Octet)
  /-- COMMIT_ARRIVE (R32). -/
  | commitArrive (tag : Octet)
  /-- COMMIT_ABANDON (R33). -/
  | commitAbandon (tag : Octet)
  /-- COMMIT_PUBLISH (R41). -/
  | commitPublish (tag : Octet)
  /-- COMMIT_POST (R41). -/
  | commitPost (tag : Octet)
  /-- COMMIT_CANCEL (R163). -/
  | commitCancel (tag : Octet)
  /-- ARM_WATCH (R43). -/
  | armWatch (tag : Octet)
  /-- DISARM_WATCH (R44). -/
  | disarmWatch (tag : Octet)
  /-- QUERY_LOCK (R169). -/
  | queryLock (tag : Octet)
  /-- QUERY_BARRIER (R169, R170). -/
  | queryBarrier (tag : Octet)
  /-- QUERY_ROSTER (R169, R171). -/
  | queryRoster (tag : Octet)
  /-- QUERY_WORD (R169, R171). -/
  | queryWord (tag : Octet)
  /-- QUIET_WATCH_EXPIRY (R134). -/
  | quietWatchExpiry
  /-- PRESENCE_TIMER_EXPIRY (R123). -/
  | presenceTimerExpiry
  /-- SILENCE_TIMER_EXPIRY (R125): the silence timer kept for a peer has run out. -/
  | silenceTimerExpiry (peer : Station)
  /-- TRANSFER_TIMER_EXPIRY (R60). -/
  | transferTimerExpiry
  /-- CLEAR_GAP (R110): the gap count reaches 24 T. -/
  | clearGap
  /-- CONTENTION_POINT (R103, R116): the gap count reaches a multiple of 12 T. -/
  | contentionPoint
  /-- LOST_ARBITRATION (R104): another contender's head, lower than this station's, is on the line. -/
  | lostArbitration (winningHead : Octet)
  /-- COLLISION (R105): the bit at this position of the station's own frame, counted from the start bit of the head,
  10 bits a character, was sent recessive and read dominant. -/
  | collision (bitPosition : Nat)
  /-- DRIVER_FAULT (R106): the station drives the line dominant and reads it recessive. -/
  | driverFault
  /-- STALL (R102): no start bit within 2 T of a stop bit inside a frame. -/
  | stall
  /-- LINE_HELD_BEGIN (R112): a dominant run reaches 20 T. -/
  | lineHeldBegin
  /-- LINE_HELD_END (R112): the line has been recessive for 0.5 T. -/
  | lineHeldEnd
  /-- FRAME_END (R78, R100): the last check octet's stop bit, with the characters of the frame as this station read
  them, head first. -/
  | frameEnd (characters : List Character)
  /-- SLOT_WINDOW_END (R80, R109): the end of the 12 T slot window, with what this station saw in it. -/
  | slotWindowEnd (seen : SlotSeen)
  /-- START_BIT (R100): a start bit that begins while the line is open and that this station has not begun. -/
  | startBit
  /-- DOMINANT_BEFORE_OPEN (R99): a dominant level before the gap count reaches 12 T. -/
  | dominantBeforeOpen
  /-- RESETN_ASSERTED (R131): power-on reset is asserted. -/
  | resetnAsserted
deriving DecidableEq, Repr

end Sys2Proof
end

