-- ==== Sys2Proof/Machine/Types.lean ====
section
/-!
DEFINITION. The plain data of the C16: the records of the cluster table, the local records, frames, requests,
indications, timers and line states. Their codes are in Machine/Codes.lean.
-/

namespace Sys2Proof.Machine

/-- Station states (R129, Table 8-1). -/
inductive StationState where
  | watch | outside | joining | inStep | diverged | halted
deriving DecidableEq, Repr

/-- The standing of a roster entry (R46). -/
inductive Standing where
  | absent | joining | member
deriving DecidableEq, Repr

/-- A roster entry (R46). -/
structure RosterEntry where
  standing : Standing
  installed : PartSet
deriving DecidableEq, Repr

/-- A lock record (R1): the holder, or none, and the wait queue, oldest first. -/
structure LockRecord where
  holder : Option Station
  waiters : List Station
deriving DecidableEq, Repr

/-- A barrier record (R23). -/
structure BarrierRecord where
  generation : Octet
  partyCount : Nat
  arrived : StationSet
deriving DecidableEq, Repr

/-- The phase of a claim record (R11, Table 1-2). -/
inductive ClaimPhase where
  | none | claimQueued | waiting | withdrawQueued | held | releaseQueued
deriving DecidableEq, Repr

/-- A claim record (R11). -/
structure ClaimRecord where
  phase : ClaimPhase
  tag : Octet
  withdrawals : Nat
deriving DecidableEq, Repr

/-- The phase of an arrival record (R31, Table 2-1). -/
inductive ArrivalPhase where
  | none | arriveQueued | arrived | abandonQueued
deriving DecidableEq, Repr

/-- An arrival record (R31). -/
structure ArrivalRecord where
  phase : ArrivalPhase
  tag : Octet
  generation : Option Octet
deriving DecidableEq, Repr

/-- The condition of a watch (R42). -/
inductive WatchCondition where
  | equal | notEqual | anyChange
deriving DecidableEq, Repr

/-- A watch slot (R42). -/
structure WatchSlot where
  armed : Bool
  tag : Octet
  station : Station
  condition : WatchCondition
  value : Word16
deriving DecidableEq, Repr

/-- The flavour of a CLAIM frame (R66). -/
inductive Flavour where
  | wait | tryOnce
deriving DecidableEq, Repr

/-- The content of a SNAPSHOT (R143, Table 9-1): part 0; part 1 + group; part 9 + group; part 11 + group. -/
inductive PartContent where
  | roster (entries : Vector RosterEntry 16)
  | locks (group : Fin 8) (records : Vector LockRecord 4)
  | barriers (group : Fin 2) (records : Vector BarrierRecord 4)
  | words (group : Fin 2) (values : Vector Word16 8)
deriving DecidableEq, Repr

/-- The kind and body of a well-formed frame (R66, Table 4-1). -/
inductive FrameBody where
  | evict (target : Station)
  | leave
  | resync
  | join (found : Bool)
  | release (lock : LockNo)
  | withdraw (lock : LockNo)
  | claim (lock : LockNo) (flavour : Flavour)
  | abandon (barrier : BarrierNo) (generation : Octet)
  | arrive (barrier : BarrierNo) (partyCount : Nat)
  | publish (value : Word16)
  | post (target : Station) (code : Octet)
  | snapshot (content : PartContent)
  | presence
deriving DecidableEq, Repr

/-- A frame (R65): its sender, its order number, and its kind with its body. -/
structure Frame where
  sender : Station
  order : Word16
  body : FrameBody
deriving DecidableEq, Repr

/-- The classification of a complete frame (R76); a good frame comes with its fields. -/
inductive Classification where
  | good (frame : Frame)
  | badCheck
  | malformed
deriving DecidableEq, Repr

/-- The decision on a frame (R78). -/
inductive Objection where
  | none | reject | order
deriving DecidableEq, Repr

/-- The slot outcome of a frame (R80). -/
inductive SlotOutcome where
  | accepted | rejected | ordered
deriving DecidableEq, Repr

/-- What the Acceptance Unit holds of a complete frame until the end of its slot window: the classification (R76), the
objection decided (R78), and whether this station sent the frame (R88). For the station's own frame the classification is
`good` of the frame as built: it is counted from that, whatever the read-back classed (R83). -/
structure HeardFrame where
  classification : Classification
  objection : Objection
  own : Bool
deriving DecidableEq, Repr

/-- A queued request's kind and its arguments as committed (R159, Table 10-2). -/
inductive RequestBody where
  | join
  | leave
  | claim (lock : LockNo)
  | tryClaim (lock : LockNo)
  | release (lock : LockNo)
  | withdraw (lock : LockNo)
  | arrive (barrier : BarrierNo) (partyCount : Nat)
  | abandon (barrier : BarrierNo)
  | publish (value : Word16)
  | post (target : Station) (code : Octet)
deriving DecidableEq, Repr

/-- An entry of the request queue (R159). -/
structure Request where
  body : RequestBody
  tag : Octet
  inAttempt : Bool
  cancelMark : Bool
deriving DecidableEq, Repr

/-- The 17 request kinds (Table 12-6). -/
inductive RequestKind where
  | join | leave | claim | tryClaim | release | withdraw | arrive | abandon | publish | post
  | cancel | armWatch | disarmWatch | queryLock | queryBarrier | queryRoster | queryWord
deriving DecidableEq, Repr

/-- The commit results (Table 12-7). -/
inductive CommitResult where
  | noCommit | accepted | queueFull | duplicateTag | badTag | range | unknownKind | notInStep
  | notHolder | notWaiting | notArrived | leaving | alreadyMember | halted | unknownTag | already
deriving DecidableEq, Repr

/-- The 23 indication kinds (Table 12-8). -/
inductive IndicationKind where
  | granted | waiting | notGranted | released | withdrawn | arrived | barrierOpen | barrierBroken
  | abandoned | published | posted | signal | watchMatched | peerJoined | peerInStep | peerLeft
  | peerLost | state | refused | tooLate | cancelled | lineFault | lineHeld
deriving DecidableEq, Repr

/-- An indication record (R165, R182): five octets, the first its kind's code. -/
structure Indication where
  kind : IndicationKind
  tag : Octet
  a : Octet
  b : Octet
  c : Octet
deriving DecidableEq, Repr

/-- Reasons of REFUSED (Table 12-9). -/
inductive Reason where
  | already | notHolder | notWaiting | mismatch | notMember
deriving DecidableEq, Repr

/-- Causes of STATE (R130, Table 12-9). -/
inductive Cause where
  | founded | joined | resynced | aheadFrame | orderObjected | left | evicted | clusterLost
  | driverFault | duplicateStation | restart
deriving DecidableEq, Repr

/-- The joining cause (R129). -/
inductive JoiningCause where
  | joined | resynced
deriving DecidableEq, Repr

/-- Markers of PEER JOINED (Table 12-5). -/
inductive PeerMarker where
  | new | rejoin | resync
deriving DecidableEq, Repr

/-- Markers of ABANDONED (Table 12-5). -/
inductive AbandonMarker where
  | applied | localOnly
deriving DecidableEq, Repr

/-- The items of the Send Selector (section 7.1): a request, known by its tag, or a protocol duty. -/
inductive Item where
  | request (tag : Octet)
  | evict (target : Station)
  | resync
  | snapshot
  | presence
deriving DecidableEq, Repr

/-- The attempt in hand (R114): the built frame, and the item its outcome reaches. The item is none once an entry into
OUTSIDE has taken the item away while the attempt runs to its end (R118, R135). -/
structure Attempt where
  frame : Frame
  item : Option Item
deriving DecidableEq, Repr

/-- Line Engine states (R98, Table 6-2). -/
inductive LineState where
  | idle | contending | sending | receiving | slot | held
deriving DecidableEq, Repr

/-- What the station drives on the cluster line (Table 6-2). -/
inductive Driver where
  /-- The line is released. -/
  | released
  /-- The head, or the rest, of the frame in attempt. -/
  | frame
  /-- An objection character. -/
  | objection (character : Octet)
deriving DecidableEq, Repr

/-- A timer of the Membership Controller: cleared; running towards the length in T it was started with; or expired, which
stops it (R60, R123, R125, R133). Bit times do not pass inside the model: the expiry commands say when the length has
run (log 3). -/
inductive Timer where
  | cleared
  | running (length : Nat)
  | expired
deriving DecidableEq, Repr

/-- How an accepted frame is counted (R83, Table 5-2). -/
inductive Counting where
  /-- Apply the frame to the installed parts (R84, R85). -/
  | apply
  /-- Adopt the number without applying (R85, R86). -/
  | track
  /-- Enter DIVERGED (R91). -/
  | diverge
  /-- Leave the cluster (R92). -/
  | leaveCluster
deriving DecidableEq, Repr

end Sys2Proof.Machine
end

