-- ==== Sys2Proof/Machine/Codes.lean ====
section
/-!
DEFINITION. The code values of 12_formats.md and the octet helpers that lay values out: Tables 12-4 to 12-9.
-/

namespace Sys2Proof.Machine

/-! ## Octets and sets -/

/-- The high octet of a 16-bit value (multi-octet values are high octet first, 12_formats.md). -/
def highOctet (w : Word16) : Octet := w.extractLsb' 8 8

/-- The low octet of a 16-bit value. -/
def lowOctet (w : Word16) : Octet := w.extractLsb' 0 8

/-- The 16-bit value of two octets, high octet first. -/
def word16 (high low : Octet) : Word16 := high ++ low

/-- A number as an octet. -/
def octetOf (n : Nat) : Octet := BitVec.ofNat 8 n

/-- A station, lock, barrier or slot number as an octet. -/
def octetOfFin {n : Nat} (i : Fin n) : Octet := octetOf i.val

/-- An octet as a number below `n`, where it is one. -/
def finOfOctet (n : Nat) (o : Octet) : Option (Fin n) :=
  if h : o.toNat < n then some ⟨o.toNat, h⟩ else none

/-- The station numbers in ascending order. -/
def allStations : List Station := [0, 1, 2, 3, 4, 5, 6, 7, 8, 9, 10, 11, 12, 13, 14, 15]

/-- The lock numbers in ascending order. -/
def allLocks : List LockNo :=
  [0, 1, 2, 3, 4, 5, 6, 7, 8, 9, 10, 11, 12, 13, 14, 15,
    16, 17, 18, 19, 20, 21, 22, 23, 24, 25, 26, 27, 28, 29, 30, 31]

/-- The barrier numbers in ascending order. -/
def allBarriers : List BarrierNo := [0, 1, 2, 3, 4, 5, 6, 7]

/-- The part numbers in ascending order. -/
def allParts : List PartNo := [0, 1, 2, 3, 4, 5, 6, 7, 8, 9, 10, 11, 12]

/-- The watch slots in ascending order. -/
def allSlots : List SlotNo := [0, 1, 2, 3]

/-- Whether a station is in a set of stations. -/
def hasStation (set : StationSet) (s : Station) : Bool := set.getLsbD s.val

/-- A set of stations with one added. -/
def addStation (set : StationSet) (s : Station) : StationSet := set ||| BitVec.twoPow 16 s.val

/-- A set of stations with one removed. -/
def dropStation (set : StationSet) (s : Station) : StationSet := set &&& ~~~(BitVec.twoPow 16 s.val)

/-- The number of stations in a set. -/
def stationCount (set : StationSet) : Nat := (allStations.filter (hasStation set)).length

/-- Whether a part is in a set of parts. -/
def hasPart (set : PartSet) (p : PartNo) : Bool := set.getLsbD p.val

/-- A set of parts with one added. -/
def addPart (set : PartSet) (p : PartNo) : PartSet := set ||| BitVec.twoPow 13 p.val

/-- The complete set of 13 parts: 1FFFh (R179). -/
def allPartsSet : PartSet := BitVec.allOnes 13

/-! ## Code values -/

/-- Station state codes (Table 12-5). -/
def StationState.code : StationState → Nat
  | .watch => 0
  | .outside => 1
  | .joining => 2
  | .inStep => 3
  | .diverged => 4
  | .halted => 5

/-- Claim record phase codes, QUERY LOCK D (Table 12-5). -/
def ClaimPhase.code : ClaimPhase → Octet
  | .none => 0x00
  | .claimQueued => 0x01
  | .waiting => 0x02
  | .withdrawQueued => 0x03
  | .held => 0x04
  | .releaseQueued => 0x05

/-- Arrival record phase codes, QUERY BARRIER D (Table 12-5). -/
def ArrivalPhase.code : ArrivalPhase → Octet
  | .none => 0x00
  | .arriveQueued => 0x01
  | .arrived => 0x02
  | .abandonQueued => 0x03

/-- Standing codes (Table 12-3, part 0). -/
def Standing.code : Standing → Octet
  | .absent => 0x00
  | .joining => 0x01
  | .member => 0x02

/-- The standing of a code, where the table lists it. -/
def Standing.ofCode (o : Octet) : Option Standing :=
  if o = 0x00 then some .absent else if o = 0x01 then some .joining else if o = 0x02 then some .member else none

/-- The holder octet: the station, or FFh for none (R177). -/
def holderOctet : Option Station → Octet
  | some s => octetOfFin s
  | none => 0xFF

/-- Request kind codes (Table 12-6). -/
def RequestKind.code : RequestKind → Octet
  | .join => 0x01
  | .leave => 0x02
  | .claim => 0x03
  | .tryClaim => 0x04
  | .release => 0x05
  | .withdraw => 0x06
  | .arrive => 0x07
  | .abandon => 0x08
  | .publish => 0x09
  | .post => 0x0A
  | .cancel => 0x0B
  | .armWatch => 0x0C
  | .disarmWatch => 0x0D
  | .queryLock => 0x0E
  | .queryBarrier => 0x0F
  | .queryRoster => 0x10
  | .queryWord => 0x11

/-- Every request kind, by ascending code. -/
def RequestKind.all : List RequestKind :=
  [.join, .leave, .claim, .tryClaim, .release, .withdraw, .arrive, .abandon, .publish, .post,
    .cancel, .armWatch, .disarmWatch, .queryLock, .queryBarrier, .queryRoster, .queryWord]

/-- The request kind of a code, where Table 12-6 lists it. -/
def RequestKind.ofCode (o : Octet) : Option RequestKind := RequestKind.all.find? (fun k => k.code == o)

/-- The request kind of a queued request. -/
def RequestBody.kind : RequestBody → RequestKind
  | .join => .join
  | .leave => .leave
  | .claim _ => .claim
  | .tryClaim _ => .tryClaim
  | .release _ => .release
  | .withdraw _ => .withdraw
  | .arrive _ _ => .arrive
  | .abandon _ => .abandon
  | .publish _ => .publish
  | .post _ _ => .post

/-- Commit result codes (Table 12-7). -/
def CommitResult.code : CommitResult → Octet
  | .noCommit => 0x00
  | .accepted => 0x01
  | .queueFull => 0x02
  | .duplicateTag => 0x03
  | .badTag => 0x04
  | .range => 0x05
  | .unknownKind => 0x06
  | .notInStep => 0x07
  | .notHolder => 0x08
  | .notWaiting => 0x09
  | .notArrived => 0x0A
  | .leaving => 0x0B
  | .alreadyMember => 0x0C
  | .halted => 0x0D
  | .unknownTag => 0x0E
  | .already => 0x0F

/-- Indication kind codes (Table 12-8). -/
def IndicationKind.code : IndicationKind → Octet
  | .granted => 0x01
  | .waiting => 0x02
  | .notGranted => 0x03
  | .released => 0x04
  | .withdrawn => 0x05
  | .arrived => 0x06
  | .barrierOpen => 0x07
  | .barrierBroken => 0x08
  | .abandoned => 0x09
  | .published => 0x0A
  | .posted => 0x0B
  | .signal => 0x0C
  | .watchMatched => 0x0D
  | .peerJoined => 0x0E
  | .peerInStep => 0x0F
  | .peerLeft => 0x10
  | .peerLost => 0x11
  | .state => 0x12
  | .refused => 0x13
  | .tooLate => 0x14
  | .cancelled => 0x15
  | .lineFault => 0x16
  | .lineHeld => 0x17

/-- Reason codes (Table 12-9). -/
def Reason.code : Reason → Octet
  | .already => 0x01
  | .notHolder => 0x02
  | .notWaiting => 0x03
  | .mismatch => 0x04
  | .notMember => 0x05

/-- Cause codes (Table 12-9). -/
def Cause.code : Cause → Octet
  | .founded => 0x01
  | .joined => 0x02
  | .resynced => 0x03
  | .aheadFrame => 0x04
  | .orderObjected => 0x05
  | .left => 0x06
  | .evicted => 0x07
  | .clusterLost => 0x08
  | .driverFault => 0x09
  | .duplicateStation => 0x0A
  | .restart => 0x0B

/-- The joining cause as a cause of STATE (R129, R141). -/
def JoiningCause.cause : JoiningCause → Cause
  | .joined => .joined
  | .resynced => .resynced

/-- PEER JOINED marker codes (Table 12-5). -/
def PeerMarker.code : PeerMarker → Octet
  | .new => 0x00
  | .rejoin => 0x01
  | .resync => 0x02

/-- ABANDONED marker codes (Table 12-5). -/
def AbandonMarker.code : AbandonMarker → Octet
  | .applied => 0x00
  | .localOnly => 0x01

/-! ## Indication records (Table 12-8). An octet the kind does not use holds 00h (R177). -/

def Indication.granted (tag : Octet) (l : LockNo) : Indication := ⟨.granted, tag, octetOfFin l, 0, 0⟩
def Indication.waiting (tag : Octet) (l : LockNo) (position : Nat) : Indication :=
  ⟨.waiting, tag, octetOfFin l, octetOf position, 0⟩
def Indication.notGranted (tag : Octet) (l : LockNo) (holder : Option Station) : Indication :=
  ⟨.notGranted, tag, octetOfFin l, holderOctet holder, 0⟩
def Indication.released (tag : Octet) (l : LockNo) : Indication := ⟨.released, tag, octetOfFin l, 0, 0⟩
def Indication.withdrawn (tag : Octet) (l : LockNo) : Indication := ⟨.withdrawn, tag, octetOfFin l, 0, 0⟩
def Indication.arrived (tag : Octet) (b : BarrierNo) (generation : Octet) (count : Nat) : Indication :=
  ⟨.arrived, tag, octetOfFin b, generation, octetOf count⟩
def Indication.barrierOpen (tag : Octet) (b : BarrierNo) (generation : Octet) (count : Nat) : Indication :=
  ⟨.barrierOpen, tag, octetOfFin b, generation, octetOf count⟩
def Indication.barrierBroken (tag : Octet) (b : BarrierNo) (generation : Octet) (s : Station) : Indication :=
  ⟨.barrierBroken, tag, octetOfFin b, generation, octetOfFin s⟩
def Indication.abandoned (tag : Octet) (b : BarrierNo) (generation : Octet) (m : AbandonMarker) : Indication :=
  ⟨.abandoned, tag, octetOfFin b, generation, m.code⟩
def Indication.published (tag : Octet) (v : Word16) : Indication := ⟨.published, tag, highOctet v, lowOctet v, 0⟩
def Indication.posted (tag : Octet) (target : Station) (code : Octet) : Indication :=
  ⟨.posted, tag, octetOfFin target, code, 0⟩
def Indication.signal (sender : Station) (code : Octet) : Indication := ⟨.signal, 0, octetOfFin sender, code, 0⟩
def Indication.watchMatched (tag : Octet) (s : Station) (v : Word16) : Indication :=
  ⟨.watchMatched, tag, octetOfFin s, highOctet v, lowOctet v⟩
def Indication.peerJoined (s : Station) (m : PeerMarker) : Indication := ⟨.peerJoined, 0, octetOfFin s, m.code, 0⟩
def Indication.peerInStep (s : Station) : Indication := ⟨.peerInStep, 0, octetOfFin s, 0, 0⟩
def Indication.peerLeft (s : Station) : Indication := ⟨.peerLeft, 0, octetOfFin s, 0, 0⟩
def Indication.peerLost (s evictor : Station) : Indication := ⟨.peerLost, 0, octetOfFin s, octetOfFin evictor, 0⟩
def Indication.state (new : StationState) (cause : Cause) (tag : Octet) (discarded : Nat) : Indication :=
  ⟨.state, tag, octetOf new.code, cause.code, octetOf discarded⟩
/-- REFUSED: the reason, the lock, barrier or target, and the party count for MISMATCH. -/
def Indication.refused (tag : Octet) (reason : Reason) (item : Octet) (count : Octet) : Indication :=
  ⟨.refused, tag, reason.code, item, count⟩
/-- TOO LATE: the answered request's kind, and the lock or barrier, 00h for CANCEL. -/
def Indication.tooLate (tag : Octet) (kind : RequestKind) (item : Octet) : Indication :=
  ⟨.tooLate, tag, kind.code, item, 0⟩
def Indication.cancelled (tag : Octet) (kind : RequestKind) : Indication := ⟨.cancelled, tag, kind.code, 0, 0⟩
def Indication.lineFault (tag : Octet) (kind : RequestKind) : Indication := ⟨.lineFault, tag, kind.code, 0, 0⟩
def Indication.lineHeld : Indication := ⟨.lineHeld, 0, 0, 0, 0⟩

/-- The five octets of a record, in the order they are read (R182). -/
def Indication.octets (r : Indication) : List Octet := [r.kind.code, r.tag, r.a, r.b, r.c]

end Sys2Proof.Machine
end

