-- ==== Sys2Proof/Machine/Frame.lean ====
section
/-!
DEFINITION. Frames as octets: the layouts of 12_formats.md (R178, R179), the check (R73), where a received frame ends
(R68), the malformed conditions (R74, R75) and the classification (R76).
-/

namespace Sys2Proof.Machine

/-! ## The parts of the cluster table (R143) -/

/-- The part a lock belongs to: 1 + (L div 4) (R1). -/
def lockPart (l : LockNo) : PartNo := ⟨1 + l.val / 4, by omega⟩

/-- The part a barrier belongs to: 9 + (B div 4) (R23). -/
def barrierPart (b : BarrierNo) : PartNo := ⟨9 + b.val / 4, by omega⟩

/-- The part a station's word belongs to: 11 + (s div 8) (R38). -/
def wordPart (s : Station) : PartNo := ⟨11 + s.val / 8, by omega⟩

/-- The part a snapshot content is of (Table 9-1). -/
def PartContent.part : PartContent → PartNo
  | .roster _ => 0
  | .locks g _ => ⟨1 + g.val, by omega⟩
  | .barriers g _ => ⟨9 + g.val, by omega⟩
  | .words g _ => ⟨11 + g.val, by omega⟩

/-! ## Building octets -/

/-- The installed set as 16 bits, bits 15 to 13 zero (R179). -/
def partSetWord (set : PartSet) : Word16 := set.zeroExtend 16

/-- A roster entry's three octets (R179). -/
def rosterEntryOctets (e : RosterEntry) : List Octet :=
  [e.standing.code, highOctet (partSetWord e.installed), lowOctet (partSetWord e.installed)]

/-- A lock record: holder, queue length, queue entries oldest first (R179). -/
def lockOctets (l : LockRecord) : List Octet :=
  holderOctet l.holder :: octetOf l.waiters.length :: l.waiters.map octetOfFin

/-- A barrier record: generation, party count, arrived set (R179). -/
def barrierOctets (b : BarrierRecord) : List Octet :=
  [b.generation, octetOf b.partyCount, highOctet b.arrived, lowOctet b.arrived]

/-- A status word's two octets (R179). -/
def wordOctets (w : Word16) : List Octet := [highOctet w, lowOctet w]

/-- The content octets of a part (R179, Table 12-3). -/
def PartContent.octets : PartContent → List Octet
  | .roster es => es.toList.flatMap rosterEntryOctets
  | .locks _ ls => ls.toList.flatMap lockOctets
  | .barriers _ bs => bs.toList.flatMap barrierOctets
  | .words _ ws => ws.toList.flatMap wordOctets

/-- The flavour bits of a CLAIM, bits 7 and 6 (Table 12-2). -/
def Flavour.code : Flavour → Nat
  | .wait => 0
  | .tryOnce => 1

/-- Frame kind codes (Table 4-1). -/
def FrameBody.kindCode : FrameBody → Nat
  | .evict _ => 0
  | .leave => 1
  | .resync => 2
  | .join _ => 3
  | .release _ => 4
  | .withdraw _ => 5
  | .claim _ _ => 6
  | .abandon _ _ => 7
  | .arrive _ _ => 8
  | .publish _ => 9
  | .post _ _ => 10
  | .snapshot _ => 11
  | .presence => 12

/-- The body octets of a frame (R178, Table 12-2). -/
def FrameBody.octets : FrameBody → List Octet
  | .evict t => [octetOfFin t]
  | .leave => []
  | .resync => []
  | .join found => [if found then 0x01 else 0x00]
  | .release l => [octetOfFin l]
  | .withdraw l => [octetOfFin l]
  | .claim l f => [octetOf (f.code * 64 + l.val)]
  | .abandon b g => [octetOfFin b, g]
  | .arrive b c => [octetOfFin b, octetOf c]
  | .publish v => [highOctet v, lowOctet v]
  | .post t k => [octetOfFin t, k]
  | .snapshot content => octetOfFin content.part :: octetOf content.octets.length :: content.octets
  | .presence => []

/-- The head octet: kind in the high four bits, sender in the low four (R65). -/
def headOctet (kind : Nat) (sender : Station) : Octet := octetOf (kind * 16 + sender.val)

/-- The head of a frame. -/
def Frame.head (f : Frame) : Octet := headOctet f.body.kindCode f.sender

/-- The octets the check is computed over: head, order number, body (R65, R73). -/
def Frame.checked (f : Frame) : List Octet :=
  f.head :: highOctet f.order :: lowOctet f.order :: f.body.octets

/-! ## The check (R73) -/

/-- One bit of the check: the remainder's top bit is compared with the data bit, the remainder shifts left, and 1021h is
combined where they differed. -/
def checkBit (remainder : Word16) (dataBit : Bool) : Word16 :=
  if remainder.msb != dataBit then (remainder <<< 1) ^^^ 0x1021#16 else remainder <<< 1

/-- One octet of the check, most significant bit first. -/
def checkOctet (remainder : Word16) (o : Octet) : Word16 :=
  [o.getLsbD 7, o.getLsbD 6, o.getLsbD 5, o.getLsbD 4,
    o.getLsbD 3, o.getLsbD 2, o.getLsbD 1, o.getLsbD 0].foldl checkBit remainder

/-- The check over a run of octets, from the starting remainder FFFFh. -/
def checkOf (octets : List Octet) : Word16 := octets.foldl checkOctet 0xFFFF

/-- All octets of a frame in the order they are sent: the checked octets, then the check, high octet first (R178). -/
def Frame.octets (f : Frame) : List Octet :=
  f.checked ++ [highOctet (checkOf f.checked), lowOctet (checkOf f.checked)]

/-- The characters a receiver reads of an undisturbed run of octets: every stop bit recessive. -/
def cleanCharacters (octets : List Octet) : List Character := octets.map (fun o => ⟨o, false⟩)

/-- The ten bits of a character on the line, a recessive level as true: start bit, data bits most significant first,
stop bit (R97). -/
def characterBits (o : Octet) : List Bool :=
  [false, o.getLsbD 7, o.getLsbD 6, o.getLsbD 5, o.getLsbD 4,
    o.getLsbD 3, o.getLsbD 2, o.getLsbD 1, o.getLsbD 0, true]

/-! ## Where a received frame ends (R68) -/

/-- The frame length of each kind but SNAPSHOT (Table 4-1); an unassigned kind is taken as 5 octets long. -/
def kindLength (kind : Nat) : Nat :=
  match kind with
  | 0 => 6
  | 3 => 6
  | 4 => 6
  | 5 => 6
  | 6 => 6
  | 7 => 7
  | 8 => 7
  | 9 => 7
  | 10 => 7
  | _ => 5

/-- The kind code in a head octet. -/
def headKind (head : Octet) : Nat := head.toNat / 16

/-- The sender in a head octet. -/
def headSender (head : Octet) : Station := ⟨head.toNat % 16, by omega⟩

/-- The frame length, once the octets received settle it (R68): from the head, and for a SNAPSHOT from its fifth octet,
a content length above 68 being taken as 68. -/
def frameLength : List Octet → Option Nat
  | [] => none
  | head :: rest =>
    if headKind head = 11 then
      match rest with
      | _ :: _ :: _ :: n :: _ => some (7 + min n.toNat 68)
      | _ => none
    else some (kindLength (headKind head))

/-- The characters of the complete frame among those received: as many as the frame length, once that many are there
(R100, R101). -/
def completeFrame (chars : List Character) : Option (List Character) :=
  match frameLength (chars.map (·.data)) with
  | some n => if n ≤ chars.length then some (chars.take n) else none
  | none => none

/-! ## Reading a frame: the malformed conditions (R74, R75) -/

/-- A vector of exactly `n` items, where the list has that many. -/
def vectorOf {α : Type} (n : Nat) (xs : List α) : Option (Vector α n) :=
  if h : xs.length = n then some ⟨⟨xs⟩, h⟩ else none

/-- Run a reader `n` times over the octets, and give what is left. -/
def readMany {α : Type} (read : List Octet → Option (α × List Octet)) :
    Nat → List Octet → Option (List α × List Octet)
  | 0, os => some ([], os)
  | n + 1, os =>
    match read os with
    | none => none
    | some (x, rest) =>
      match readMany read n rest with
      | none => none
      | some (xs, left) => some (x :: xs, left)

/-- Exactly `n` items and no octet over. -/
def readAll {α : Type} (read : List Octet → Option (α × List Octet)) (n : Nat) (os : List Octet) :
    Option (Vector α n) :=
  match readMany read n os with
  | some (xs, []) => vectorOf n xs
  | _ => none

/-- The law of a roster entry (R46, R75): a MEMBER's set holds all 13 parts, an ABSENT entry's set is empty. -/
def RosterEntry.lawful (e : RosterEntry) : Bool :=
  match e.standing with
  | .absent => e.installed == 0
  | .joining => true
  | .member => e.installed == allPartsSet

/-- The law of a lock record (R1, R75): a free lock has no waiter, no waiter is the holder, no station waits twice, and
at most 15 wait. -/
def LockRecord.lawful (l : LockRecord) : Bool :=
  decide l.waiters.Nodup && decide (l.waiters.length ≤ 15) &&
    match l.holder with
    | none => l.waiters.isEmpty
    | some h => !l.waiters.contains h

/-- The law of a barrier record (R23, R75): party count 0 with no arrival, or 2 to 16 with 1 to count − 1 arrivals. -/
def BarrierRecord.lawful (b : BarrierRecord) : Bool :=
  if b.partyCount = 0 then b.arrived == 0
  else decide (2 ≤ b.partyCount) && decide (b.partyCount ≤ 16) &&
    decide (1 ≤ stationCount b.arrived) && decide (stationCount b.arrived < b.partyCount)

/-- A roster entry from three octets (R75): a listed standing, no part above 12, and the entry's law. -/
def readRosterEntry : List Octet → Option (RosterEntry × List Octet)
  | standing :: high :: low :: rest =>
    match Standing.ofCode standing with
    | none => none
    | some st =>
      let set := word16 high low
      let e : RosterEntry := ⟨st, set.setWidth 13⟩
      if set.toNat < 8192 && e.lawful then some (e, rest) else none
  | _ => none

/-- A holder octet: 00h to 0Fh, or FFh for none; any other value is malformed (R177). -/
def readHolder (o : Octet) : Option (Option Station) :=
  if o = 0xFF then some none else (finOfOctet 16 o).map some

/-- A queue of `n` stations. -/
def readQueue (n : Nat) (os : List Octet) : Option (List Station × List Octet) :=
  readMany (fun
    | o :: rest => (finOfOctet 16 o).map (fun s => (s, rest))
    | [] => none) n os

/-- A lock record (R75). -/
def readLock : List Octet → Option (LockRecord × List Octet)
  | holder :: n :: rest =>
    match readHolder holder with
    | none => none
    | some h =>
      if n.toNat ≤ 15 then
        match readQueue n.toNat rest with
        | none => none
        | some (q, left) =>
          let l : LockRecord := ⟨h, q⟩
          if l.lawful then some (l, left) else none
      else none
  | _ => none

/-- A barrier record (R75). -/
def readBarrier : List Octet → Option (BarrierRecord × List Octet)
  | g :: c :: high :: low :: rest =>
    let b : BarrierRecord := ⟨g, c.toNat, word16 high low⟩
    if b.lawful then some (b, rest) else none
  | _ => none

/-- A status word: any value (R75). -/
def readWord : List Octet → Option (Word16 × List Octet)
  | high :: low :: rest => some (word16 high low, rest)
  | _ => none

/-- The content of part `p` (R75); none where the content breaks the structure of its part, or there is no such part. -/
def readContent (p : Nat) (os : List Octet) : Option PartContent :=
  if p = 0 then (readAll readRosterEntry 16 os).map .roster
  else if h : 1 ≤ p ∧ p ≤ 8 then (readAll readLock 4 os).map (.locks ⟨p - 1, by omega⟩)
  else if h : 9 ≤ p ∧ p ≤ 10 then (readAll readBarrier 4 os).map (.barriers ⟨p - 9, by omega⟩)
  else if h : 11 ≤ p ∧ p ≤ 12 then (readAll readWord 8 os).map (.words ⟨p - 11, by omega⟩)
  else none

/-- The body of a frame of a kind (R66, R74); none where it is malformed. -/
def readBody (kind : Nat) (body : List Octet) : Option FrameBody :=
  match kind, body with
  | 0, [t] => (finOfOctet 16 t).map .evict
  | 1, [] => some .leave
  | 2, [] => some .resync
  | 3, [flags] => if flags = 0x00 then some (.join false) else if flags = 0x01 then some (.join true) else none
  | 4, [l] => (finOfOctet 32 l).map .release
  | 5, [l] => (finOfOctet 32 l).map .withdraw
  | 6, [x] =>
    if h : x.toNat % 64 < 32 then
      if x.toNat / 64 = 0 then some (.claim ⟨x.toNat % 64, h⟩ .wait)
      else if x.toNat / 64 = 1 then some (.claim ⟨x.toNat % 64, h⟩ .tryOnce)
      else none
    else none
  | 7, [b, g] => (finOfOctet 8 b).map (fun b => .abandon b g)
  | 8, [b, c] =>
    if 2 ≤ c.toNat ∧ c.toNat ≤ 16 then (finOfOctet 8 b).map (fun b => .arrive b c.toNat) else none
  | 9, [high, low] => some (.publish (word16 high low))
  | 10, [t, k] => (finOfOctet 16 t).map (fun t => .post t k)
  | 11, p :: n :: content =>
    if n.toNat = content.length then (readContent p.toNat content).map .snapshot else none
  | 12, [] => some .presence
  | _, _ => none

/-- The fields of a frame from its checked octets; none where it is malformed. -/
def readFrame : List Octet → Option Frame
  | head :: high :: low :: body =>
    (readBody (headKind head) body).map (fun b => ⟨headSender head, word16 high low, b⟩)
  | _ => none

/-- The classification of a complete frame (R76): the check is compared first (R73), then the malformed tests, a framing
error among them (R74). -/
def classify (chars : List Character) : Classification :=
  let octets := chars.map (·.data)
  let checked := octets.take (octets.length - 2)
  let check := checkOf checked
  if octets.drop (octets.length - 2) ≠ [highOctet check, lowOctet check] then .badCheck
  else if chars.any (·.stopDominant) then .malformed
  else
    match readFrame checked with
    | some f => .good f
    | none => .malformed

end Sys2Proof.Machine
end

