-- ==== Sys2Proof/Config.lean ====
section
/-!
DEFINITION. The fixed quantities of the C16 ("All timeouts, capacities and limits in this manual are fixed properties",
00_scope.md section 2), the strap values the model's reset state is given, and the one free value.
-/

namespace Sys2Proof.Config

/-- The quiet watch runs for 16,384 T (R133). -/
def quietWatchLength : Nat := 16384

/-- The presence interval, 4,096 T (R123). -/
def presenceInterval : Nat := 4096

/-- The loss timeout, 32,768 T: the length of the transfer timer (R60) and of every silence timer (R124). -/
def lossTimeout : Nat := 32768

/-- The request queue holds at most 8 requests (R159). -/
def requestCapacity : Nat := 8

/-- The indication queue holds at most 16 records (R165). -/
def indicationCapacity : Nat := 16

/-- The eighth failed attempt ends an item (R121). -/
def attemptLimit : Nat := 8

/-- The idle gap: the line is open once the gap count reaches 12 T (R99). -/
def idleGap : Nat := 12

/-- The clear gap: at 24 T the yield flag clears (R99, R110). -/
def clearGap : Nat := 24

/-- The station number of `State.reset`, whose straps no command has sampled. DESIGN CHOICE (log 4): unsafe. -/
def resetStation : Station := 0

/-- The bit-rate straps of `State.reset`. DESIGN CHOICE (log 4): unsafe. -/
def resetBitRate : BitVec 2 := 0

/-- ANSWER D of QUERY ROSTER where the roster holds no MEMBER: R171 says that a source exists at every query and
states no value for a roster without one. A free value (log 17): nothing constrains it. -/
opaque sourceOctetWhenNone : Octet

end Sys2Proof.Config
end

