-- ==== Sys2Proof/Machine/State.lean ====
section
/-!
DEFINITION. The state of one C16, block by block (00_scope.md, Table 1), the queue of waiting commands, the ways a step
can stop, and the state after power-on reset (Table 8-4 of 08_station_life_cycle.md).
-/

namespace Sys2Proof.Machine

/-- The strap values sampled at the last release of power-on reset (R131, R96). -/
structure Straps where
  /-- Station number, pins SA3 to SA0. -/
  station : Station
  /-- Bit rate, pins BR1 and BR0. -/
  bitRate : BitVec 2
deriving DecidableEq, Repr

/-- The Line Engine (chapter 6). The line-held condition is in force exactly while `line` is `held` (R112). -/
structure LineEngine where
  /-- Line Engine state (R98, Table 6-2). -/
  line : LineState
  /-- The gap count in T (R99), held by its landmarks (log 3). -/
  gapCount : Nat
  /-- The yield flag (R110). -/
  yieldFlag : Bool
  /-- The receive character buffer (R97): data bits collected, most significant first, recessive as true. -/
  rxBits : List Bool
deriving DecidableEq, Repr

/-- The Acceptance Unit (chapter 5). -/
structure AcceptanceUnit where
  /-- The order number (R82). -/
  order : Word16
  /-- The cluster-known flag (R93). -/
  clusterKnown : Bool
  /-- The order hold (R90). -/
  orderHold : Bool
  /-- The characters held of the frame in progress, and until the end of its slot window (R68). -/
  partialFrame : List Character
  /-- The complete frame whose slot is being read (R76, R78), or whose slot window ran at a port restart (log 27). -/
  heard : Option HeardFrame
deriving DecidableEq, Repr

/-- The Table Unit: this station's replica of the cluster table, and its installed set (chapters 1, 2, 3 and 9). -/
structure TableUnit where
  /-- The roster (R46). -/
  roster : Vector RosterEntry 16
  /-- The lock table (R1). -/
  locks : Vector LockRecord 32
  /-- The barrier table (R23). -/
  barriers : Vector BarrierRecord 8
  /-- The status board (R38). -/
  words : Vector Word16 16
  /-- The local installed set (R144). -/
  installed : PartSet
deriving DecidableEq, Repr

/-- The Membership Controller (R129). The protocol duties are functions of the state (R115, Table 7-1). -/
structure MembershipController where
  /-- The station state (R129). -/
  state : StationState
  /-- The joining cause (R129). -/
  joiningCause : JoiningCause
  /-- The quiet-watch timer (R133). -/
  quietWatch : Timer
  /-- The presence timer (R123). -/
  presence : Timer
  /-- The transfer timer (R60). -/
  transfer : Timer
  /-- The silence timers, one for each station number (R124). -/
  silence : Vector Timer 16
deriving DecidableEq, Repr

/-- The Send Selector (R114). -/
structure SendSelector where
  /-- The attempt in hand. -/
  attempt : Option Attempt
  /-- The counted item. -/
  counted : Option Item
  /-- The attempt counter. -/
  counter : Nat
deriving DecidableEq, Repr

/-- The Host Port (chapter 10), with the local records it owns. -/
structure HostPort where
  /-- REQUEST A (R157). -/
  requestA : Octet
  /-- REQUEST B. -/
  requestB : Octet
  /-- REQUEST C. -/
  requestC : Octet
  /-- REQUEST D. -/
  requestD : Octet
  /-- ANSWER A (R158). -/
  answerA : Octet
  /-- ANSWER B. -/
  answerB : Octet
  /-- ANSWER C. -/
  answerC : Octet
  /-- ANSWER D. -/
  answerD : Octet
  /-- COMMIT RESULT (R158). -/
  commitResult : CommitResult
  /-- The request queue, oldest first (R159). -/
  queue : List Request
  /-- The indication queue, oldest first (R165). -/
  indications : List Indication
  /-- The read position: 0 kind, 1 tag, 2 a, 3 b, 4 c (R166). -/
  readPos : Fin 5
  /-- OVERRUN (R167). -/
  overrun : Bool
  /-- The indication-pending enable (R168). -/
  irqPending : Bool
  /-- The overrun enable (R168). -/
  irqOverrun : Bool
  /-- The claim records (R11). -/
  claims : Vector ClaimRecord 32
  /-- The arrival records (R31). -/
  arrivals : Vector ArrivalRecord 8
  /-- The watch slots (R42). -/
  watches : Vector WatchSlot 4
deriving DecidableEq, Repr

/-- The whole state: the straps, the reset pin, the six blocks, and the model's own two fields. -/
structure State where
  /-- The sampled straps (R131). -/
  straps : Straps
  /-- RESETn is low (R131). -/
  resetAsserted : Bool
  /-- Line Engine. -/
  le : LineEngine
  /-- Acceptance Unit. -/
  au : AcceptanceUnit
  /-- Table Unit. -/
  tu : TableUnit
  /-- Membership Controller. -/
  mc : MembershipController
  /-- Send Selector. -/
  ss : SendSelector
  /-- Host Port. -/
  hp : HostPort
  /-- The model's own field: the octet the last read of INDICATION WINDOW returned (R166, log 5). -/
  hostData : Octet
  /-- The model's own field: the commands that are waiting, first in, first out (log 1). -/
  pending : List Instr
deriving DecidableEq, Repr

/-- No command of the C16 stops the machine with a fault: the faults the manual names (a driver fault, a duplicate
station number) put the station in HALTED, which is a next state (R94, R106, R136). So this type has no constructor:
nothing raises it, and that is safe. -/
inductive Fault where
deriving DecidableEq, Repr

/-- A step refused. -/
inductive Refusal where
  /-- Raised by `exec` alone, for a command that has no meaning yet; safe. No arm of this model raises it. -/
  | notModelled (mnemonic : String)
deriving DecidableEq, Repr

/-! ## The values at the release of power-on reset (Table 8-4) -/

/-- An ABSENT roster entry (R47). -/
def absentEntry : RosterEntry := ⟨.absent, 0⟩

/-- A free lock with an empty wait queue (R2). -/
def freeLock : LockRecord := ⟨none, []⟩

/-- An idle barrier at generation 0 (R24). -/
def idleBarrier : BarrierRecord := ⟨0, 0, 0⟩

/-- A claim record at NONE (R11). -/
def noClaim : ClaimRecord := ⟨.none, 0, 0⟩

/-- An arrival record at NONE (R31). -/
def noArrival : ArrivalRecord := ⟨.none, 0, none⟩

/-- A disarmed watch slot (R42). -/
def disarmedWatch : WatchSlot := ⟨false, 0, 0, .equal, 0⟩

/-- The Line Engine's reset values (R98). -/
def LineEngine.resetValue : LineEngine := ⟨.idle, 0, false, []⟩

/-- The Acceptance Unit's reset values (R68, R82, R90, R93). -/
def AcceptanceUnit.resetValue : AcceptanceUnit := ⟨0, false, false, [], none⟩

/-- The empty replica, no part installed: its reset value (R2, R24, R38, R47), and what a discarded replica holds
(R135). -/
def TableUnit.resetValue : TableUnit :=
  ⟨Vector.replicate 16 absentEntry, Vector.replicate 32 freeLock, Vector.replicate 8 idleBarrier,
    Vector.replicate 16 0, 0⟩

/-- The Membership Controller's reset values (R129, R133, R60, R115). -/
def MembershipController.resetValue : MembershipController :=
  ⟨.watch, .joined, .running Config.quietWatchLength, .cleared, .cleared, Vector.replicate 16 .cleared⟩

/-- The Send Selector's reset values (R114). -/
def SendSelector.resetValue : SendSelector := ⟨none, none, 0⟩

/-- The claim records, all NONE (R11). -/
def resetClaims : Vector ClaimRecord 32 := Vector.replicate 32 noClaim

/-- The arrival records, all NONE (R31). -/
def resetArrivals : Vector ArrivalRecord 8 := Vector.replicate 8 noArrival

/-- The watch slots, all disarmed (R42). -/
def resetWatches : Vector WatchSlot 4 := Vector.replicate 4 disarmedWatch

/-- The Host Port's reset values (R174). -/
def HostPort.resetValue : HostPort :=
  ⟨0, 0, 0, 0, 0, 0, 0, 0, .noCommit, [], [], 0, false, false, false, resetClaims, resetArrivals, resetWatches⟩

/-- The state right after the release of power-on reset, for the straps sampled there (R131). -/
def State.afterReset (straps : Straps) (hostData : Octet) (pending : List Instr) : State :=
  ⟨straps, false, .resetValue, .resetValue, .resetValue, .resetValue, .resetValue, .resetValue, hostData, pending⟩

/-- The machine right after reset, with no command waiting. The straps are DESIGN CHOICE (log 4), `hostData` is
DESIGN CHOICE (log 5); everything else is Table 8-4. -/
def State.reset : State := State.afterReset ⟨Config.resetStation, Config.resetBitRate⟩ 0 []

end Sys2Proof.Machine
end

