-- ==== Sys2Proof/Machine/Ops.lean ====
section
/-!
DEFINITION. The named operations on the state: one update for each block, the indication queue (R165), the request queue
(R159), the local records (R11, R31, R42) and the replica's items.
-/

namespace Sys2Proof.Machine

/-! ## One update for each block -/

/-- Update the Line Engine. -/
def State.onLe (f : LineEngine → LineEngine) (s : State) : State := { s with le := f s.le }

/-- Update the Acceptance Unit. -/
def State.onAu (f : AcceptanceUnit → AcceptanceUnit) (s : State) : State := { s with au := f s.au }

/-- Update the Table Unit. -/
def State.onTu (f : TableUnit → TableUnit) (s : State) : State := { s with tu := f s.tu }

/-- Update the Membership Controller. -/
def State.onMc (f : MembershipController → MembershipController) (s : State) : State := { s with mc := f s.mc }

/-- Update the Send Selector. -/
def State.onSs (f : SendSelector → SendSelector) (s : State) : State := { s with ss := f s.ss }

/-- Update the Host Port. -/
def State.onHp (f : HostPort → HostPort) (s : State) : State := { s with hp := f s.hp }

/-- This station's number. -/
def State.me (s : State) : Station := s.straps.station

/-- The station state (R129). -/
def State.station (s : State) : StationState := s.mc.state

/-! ## The indication queue (R165) -/

/-- An indication is handed to the Host Port: it joins the tail, or at a full queue is discarded and OVERRUN is set
(R165, R167). -/
def HostPort.indicate (r : Indication) (h : HostPort) : HostPort :=
  if h.indications.length < Config.indicationCapacity then { h with indications := h.indications ++ [r] }
  else { h with overrun := true }

/-- Queue an indication (R165). -/
def State.indicate (r : Indication) (s : State) : State := s.onHp (HostPort.indicate r)

/-- Queue an indication where a condition holds. -/
def State.indicateIf (c : Bool) (r : Indication) (s : State) : State := if c then s.indicate r else s

/-! ## The local records -/

/-- The claim record of a lock (R11). -/
def State.claim (s : State) (l : LockNo) : ClaimRecord := s.hp.claims[l]

/-- Set the claim record of a lock. -/
def State.setClaim (l : LockNo) (c : ClaimRecord) (s : State) : State :=
  s.onHp (fun h => { h with claims := h.claims.set l c })

/-- The arrival record of a barrier (R31). -/
def State.arrival (s : State) (b : BarrierNo) : ArrivalRecord := s.hp.arrivals[b]

/-- Set the arrival record of a barrier. -/
def State.setArrival (b : BarrierNo) (a : ArrivalRecord) (s : State) : State :=
  s.onHp (fun h => { h with arrivals := h.arrivals.set b a })

/-- A watch slot (R42). -/
def State.watch (s : State) (i : SlotNo) : WatchSlot := s.hp.watches[i]

/-- Set a watch slot. -/
def State.setWatch (i : SlotNo) (w : WatchSlot) (s : State) : State :=
  s.onHp (fun h => { h with watches := h.watches.set i w })

/-- NONE with claim tag 0, the withdrawals queued field kept (R14, R15, R16, R20). -/
def ClaimRecord.ended (c : ClaimRecord) : ClaimRecord := { c with phase := .none, tag := 0 }

/-- The withdrawals queued field down by 1 (R17, R20). -/
def ClaimRecord.lessWithdrawal (c : ClaimRecord) : ClaimRecord := { c with withdrawals := c.withdrawals - 1 }

/-- WITHDRAW QUEUED while a withdrawal is queued, otherwise WAITING (R15). -/
def ClaimRecord.waitingPhase (c : ClaimRecord) : ClaimPhase := if 0 < c.withdrawals then .withdrawQueued else .waiting

/-! ## The replica's items -/

/-- A roster entry (R46). -/
def State.entry (s : State) (t : Station) : RosterEntry := s.tu.roster[t]

/-- The standing of a station in this station's roster. -/
def State.standing (s : State) (t : Station) : Standing := (s.entry t).standing

/-- Set a roster entry. -/
def State.setEntry (t : Station) (e : RosterEntry) (s : State) : State :=
  s.onTu (fun u => { u with roster := u.roster.set t e })

/-- A lock record (R1). -/
def State.lock (s : State) (l : LockNo) : LockRecord := s.tu.locks[l]

/-- Set a lock record. -/
def State.setLock (l : LockNo) (r : LockRecord) (s : State) : State :=
  s.onTu (fun u => { u with locks := u.locks.set l r })

/-- A barrier record (R23). -/
def State.barrier (s : State) (b : BarrierNo) : BarrierRecord := s.tu.barriers[b]

/-- Set a barrier record. -/
def State.setBarrier (b : BarrierNo) (r : BarrierRecord) (s : State) : State :=
  s.onTu (fun u => { u with barriers := u.barriers.set b r })

/-- A status word (R38). -/
def State.word (s : State) (t : Station) : Word16 := s.tu.words[t]

/-- Set a status word. -/
def State.setWord (t : Station) (v : Word16) (s : State) : State :=
  s.onTu (fun u => { u with words := u.words.set t v })

/-- Whether a part is in the local installed set (R144). -/
def State.hasInstalled (s : State) (p : PartNo) : Bool := hasPart s.tu.installed p

/-- Set a silence timer (R124). -/
def State.setSilence (t : Station) (x : Timer) (s : State) : State :=
  s.onMc (fun m => { m with silence := m.silence.set t x })

/-- Position of a station in a wait queue: 1 for the head, 0 where it is not in the queue (R1, R169). -/
def queuePosition (q : List Station) (t : Station) : Nat := if q.contains t then q.idxOf t + 1 else 0

/-! ## The source and the roster (R63) -/

/-- The source: the MEMBER with the lowest station number (R63). -/
def rosterSource (roster : Vector RosterEntry 16) : Option Station :=
  allStations.find? (fun t => roster[t].standing == .member)

/-- Whether the roster holds no MEMBER (R59). -/
def noMember (roster : Vector RosterEntry 16) : Bool := (rosterSource roster).isNone

/-! ## The request queue (R159) -/

/-- Whether a request with this tag is in the request queue. -/
def State.tagQueued (s : State) (tag : Octet) : Bool := s.hp.queue.any (fun r => r.tag == tag)

/-- Whether the request queue holds 8 requests (R159). -/
def State.queueFull (s : State) : Bool := decide (Config.requestCapacity ≤ s.hp.queue.length)

/-- Whether a LEAVE is in the request queue (R160). -/
def State.leaveQueued (s : State) : Bool := s.hp.queue.any (fun r => r.body == .leave)

/-- The tag of a LEAVE in the request queue, and 0 otherwise (R130). -/
def State.leaveTag (s : State) : Octet :=
  match s.hp.queue.find? (fun r => r.body == .leave) with
  | some r => r.tag
  | none => 0

/-- The request in attempt (R118, R159). -/
def State.requestInAttempt (s : State) : Option Request := s.hp.queue.find? (·.inAttempt)

/-- Place a request at the tail of the request queue (R159). -/
def State.enqueue (body : RequestBody) (tag : Octet) (s : State) : State :=
  s.onHp (fun h => { h with queue := h.queue ++ [⟨body, tag, false, false⟩] })

/-- The counted item becomes none and the counter 0 (R114, R119, R121). -/
def State.uncount (s : State) : State := s.onSs (fun x => { x with counted := none, counter := 0 })

/-- Remove the request with a tag from the request queue, the entries behind it keeping their order (R159). Where it was
the counted item, the counted item becomes none and the counter 0 (R120). -/
def State.removeRequest (tag : Octet) (s : State) : State :=
  let t := s.onHp (fun h => { h with queue := h.queue.eraseP (fun r => r.tag == tag) })
  if s.ss.counted = some (.request tag) then t.uncount else t

/-- Clear the in-attempt mark, at the attempt's end (R159). -/
def State.clearMarks (s : State) : State :=
  s.onHp (fun h => { h with queue := h.queue.map (fun r => { r with inAttempt := false }) })

/-- The local record of a request returns as R20 and R37 give for removal unapplied, whether or not the record still
follows that request (log 28). -/
def State.returnRecord (body : RequestBody) (s : State) : State :=
  match body with
  | .claim l => s.setClaim l (s.claim l).ended
  | .tryClaim l => s.setClaim l (s.claim l).ended
  | .release l =>
    let c := s.claim l
    if c.phase = .releaseQueued then s.setClaim l { c with phase := .held } else s
  | .withdraw l =>
    let c := (s.claim l).lessWithdrawal
    if c.phase = .withdrawQueued ∧ c.withdrawals = 0 then s.setClaim l { c with phase := .waiting }
    else s.setClaim l c
  | .arrive b _ =>
    let a := s.arrival b
    if a.phase = .arriveQueued ∨ (a.phase = .abandonQueued ∧ a.generation = none) then s.setArrival b noArrival
    else s
  | .abandon b =>
    let a := s.arrival b
    if a.phase = .abandonQueued then
      s.setArrival b { a with phase := if a.generation = none then .arriveQueued else .arrived }
    else s
  | .join => s
  | .leave => s
  | .publish _ => s
  | .post _ _ => s

/-- A request is removed unapplied and answered CANCELLED (R122, R162, R163). -/
def State.cancelRequest (r : Request) (s : State) : State :=
  ((s.removeRequest r.tag).indicate (.cancelled r.tag r.body.kind)).returnRecord r.body

/-- A request is removed unapplied and answered LINE FAULT (R121). -/
def State.faultRequest (r : Request) (s : State) : State :=
  ((s.removeRequest r.tag).indicate (.lineFault r.tag r.body.kind)).returnRecord r.body

end Sys2Proof.Machine
end

