-- ==== Sys2Proof/Machine/Flags.lean ====
section
/-!
DEFINITION. What the host and the line see of the state: PORT STATUS, STATION, HIRQn, the host port reads (R157, R168,
R173), the line driver (Table 6-2), the bit time (R96); and the protocol duties (R115, Table 7-1). All are functions of the state
(log 21, log 22).
-/

namespace Sys2Proof.Machine

/-- The line-held condition is in force (R112). -/
def State.lineHeld (s : State) : Bool := s.le.line == .held

/-- A flag as bit `n` of an octet. -/
def flagBit (c : Bool) (n : Nat) : Octet := if c then BitVec.twoPow 8 n else 0

/-- PORT STATUS (R173, R180): 7 to 5 state; 4 line held; 3 request queue empty; 2 request queue full; 1 OVERRUN;
0 indication pending. -/
def State.portStatus (s : State) : Octet :=
  octetOf (s.station.code * 32) ||| flagBit s.lineHeld 4 ||| flagBit s.hp.queue.isEmpty 3 |||
    flagBit s.queueFull 2 ||| flagBit s.hp.overrun 1 ||| flagBit (!s.hp.indications.isEmpty) 0

/-- STATION (R173, R180): 6 to 4 state; 3 to 0 station number. -/
def State.stationOctet (s : State) : Octet := octetOf (s.station.code * 16 + s.me.val)

/-- HIRQn is asserted, driven low (R168); while power-on reset is asserted it is released (R131). -/
def State.hirqAsserted (s : State) : Bool :=
  !s.resetAsserted &&
    ((!s.hp.indications.isEmpty && s.hp.irqPending) || (s.hp.overrun && s.hp.irqOverrun))

/-- The octet of the head record at the read position, 00h where the queue is empty (R166). -/
def HostPort.windowOctet (h : HostPort) : Octet :=
  match h.indications with
  | [] => 0
  | r :: _ => (r.octets[h.readPos.val]?).getD 0

/-- What a read of an offset returns (R157, Table 10-1). Only the read of INDICATION WINDOW changes state; that change
is the command INDICATION_WINDOW. -/
def State.hostRead (s : State) (offset : Fin 8) : Octet :=
  match offset with
  | 0 => s.portStatus
  | 1 => s.hp.answerA
  | 2 => s.hp.answerB
  | 3 => s.hp.answerC
  | 4 => s.hp.answerD
  | 5 => s.hp.commitResult.code
  | 6 => s.hp.windowOctet
  | 7 => s.stationOctet

/-- CLKIN periods in one bit time T (R96, Table 6-1). -/
def State.clkinPerBit (s : State) : Nat := 32 / 2 ^ s.straps.bitRate.toNat

/-- The objection character sent in the slot (R78): REJECT 00h, ORDER 3Ch. -/
def Objection.character : Objection → Option Octet
  | .none => Option.none
  | .reject => some 0x00
  | .order => some 0x3C

/-- What the station drives on the cluster line (Table 6-2): a frame in CONTENDING and SENDING, a decided objection in
SLOT, and nothing otherwise. -/
def State.driver (s : State) : Driver :=
  match s.le.line with
  | .contending => .frame
  | .sending => .frame
  | .slot =>
    match s.au.heard with
    | some h =>
      match h.objection.character with
      | some c => .objection c
      | none => .released
    | none => .released
  | .idle => .released
  | .receiving => .released
  | .held => .released

/-- The station has a stake in the cluster (R77). -/
def StationState.hasStake : StationState → Bool
  | .joining => true
  | .inStep => true
  | .diverged => true
  | .watch => false
  | .outside => false
  | .halted => false

/-! ## The protocol duties, by Table 7-1's column "Pending while" (log 21) -/

/-- The EVICT of a target is pending: IN STEP, and the silence timer for it has expired (R115, R125). -/
def State.evictPending (s : State) (t : Station) : Bool :=
  s.station == .inStep && s.mc.silence[t] == .expired

/-- The RESYNC is pending: the station is DIVERGED (R115, R127). -/
def State.resyncPending (s : State) : Bool := s.station == .diverged

/-- The SNAPSHOT duty is pending: IN STEP, the source in its own roster, and some entry JOINING (R63, R115, R128). -/
def State.snapshotPending (s : State) : Bool :=
  s.station == .inStep && rosterSource s.tu.roster == some s.me &&
    allStations.any (fun t => s.standing t == .joining)

/-- The PRESENCE is pending: JOINING or IN STEP, and the presence timer has expired (R115, R123). -/
def State.presencePending (s : State) : Bool :=
  (s.station == .joining || s.station == .inStep) && s.mc.presence == .expired

end Sys2Proof.Machine
end

