-- ==== Sys2Proof/Machine/LifeCycle.lean ====
section
/-!
DEFINITION. The entries into the station states (chapter 8): OUTSIDE (R135), HALTED (R136), DIVERGED (R138), JOINING
(R139), IN STEP (R140, R141), and the ways to leave a cluster that is lost or out of step (R59, R60, R92).
-/

namespace Sys2Proof.Machine

/-- STATE is queued (R130). -/
def State.reportState (new : StationState) (cause : Cause) (tag : Octet) (discarded : Nat) (s : State) : State :=
  s.indicate (.state new cause tag discarded)

/-- The replica is discarded (R135 step 1). -/
def State.discardReplica (s : State) : State := s.onTu (fun _ => .resetValue)

/-- The local records are reset and the request queue emptied (R135 steps 2 and 3). -/
def State.discardRecords (s : State) : State :=
  s.onHp (fun h => { h with claims := resetClaims, arrivals := resetArrivals, watches := resetWatches, queue := [] })

/-- Every timer of the Membership Controller is cleared, and the station state entered (R115, R135 step 4). -/
def State.enterCleared (new : StationState) (s : State) : State :=
  s.onMc (fun m => { m with state := new, quietWatch := .cleared, presence := .cleared, transfer := .cleared,
                             silence := Vector.replicate 16 .cleared })

/-- An attempt in hand runs to its end on the line, and its outcome reaches no item (R118, R135 step 5). -/
def State.orphanAttempt (s : State) : State :=
  s.onSs (fun x => { x with attempt := x.attempt.map (fun a => { a with item := none }) })

/-- Entry into OUTSIDE from JOINING, IN STEP or DIVERGED (R135). The discarded count is the requests in the queue
(R130): the caller has taken out the request whose tag STATE carries. -/
def State.enterOutside (cause : Cause) (tag : Octet) (s : State) : State :=
  ((((s.discardReplica.discardRecords).enterCleared .outside).uncount).orphanAttempt).reportState
    .outside cause tag s.hp.queue.length

/-- A LEAVE request, whose tag STATE carries, leaves the queue uncounted (R130). -/
def State.takeLeave (s : State) : State := if s.leaveQueued then s.removeRequest s.leaveTag else s

/-- The station leaves the cluster with cause AHEAD FRAME, ORDER OBJECTED or CLUSTER LOST (R59, R60, R92): STATE carries
the tag of a LEAVE request in the queue, which is not counted, and 0 otherwise. So for a LEAVE with a cancel mark too, where
R122 has STATE count it and R130 and Table 8-3 leave it out (DEDUCED, log 29). -/
def State.leaveClusterFor (cause : Cause) (s : State) : State := s.takeLeave.enterOutside cause s.leaveTag

/-- Set the cluster-known flag (R93). -/
def State.setClusterKnown (c : Bool) (s : State) : State := s.onAu (fun a => { a with clusterKnown := c })

/-- The loss of the cluster: OUTSIDE with cause CLUSTER LOST, and the cluster-known flag cleared (R59, R60, R149). -/
def State.loseCluster (s : State) : State := (s.setClusterKnown false).leaveClusterFor .clusterLost

/-- The Line Engine's values on entry into HALTED: driver released, yield flag clear, IDLE with gap count 0 (R98, R136
step 1). -/
def LineEngine.halt (_ : LineEngine) : LineEngine := .resetValue

/-- Entry into HALTED (R136). -/
def State.enterHalted (cause : Cause) (s : State) : State :=
  let t := (s.onLe LineEngine.halt).onAu (fun a => { a with orderHold := false, partialFrame := [], heard := none })
  ((((t.discardReplica).discardRecords).enterCleared .halted).onSs (fun _ => .resetValue)).reportState
    .halted cause 0 s.hp.queue.length

/-- Entry into DIVERGED (R138): the presence and silence timers are cleared and STATE is queued; the replica, the local
records, the request queue and the counted item are kept. -/
def State.enterDiverged (cause : Cause) (s : State) : State :=
  (s.onMc (fun m => { m with state := .diverged, presence := .cleared,
                              silence := Vector.replicate 16 .cleared })).reportState .diverged cause 0 0

/-- Entry into JOINING (R139): the joining cause is set, the presence and transfer timers start, STATE is queued. -/
def State.enterJoining (cause : JoiningCause) (tag : Octet) (s : State) : State :=
  (s.onMc (fun m => { m with state := .joining, joiningCause := cause,
                              presence := .running Config.presenceInterval,
                              transfer := .running Config.lossTimeout })).reportState .joining cause.cause tag 0

/-- The silence timers at the entry into IN STEP: one starts for every other MEMBER or JOINING entry (R124). -/
def State.startSilence (s : State) : Vector Timer 16 :=
  allStations.foldl
    (fun v t => if t ≠ s.me ∧ s.standing t ≠ .absent then v.set t (.running Config.lossTimeout) else v)
    (Vector.replicate 16 .cleared)

/-- Entry into IN STEP (R140, R141): the transfer timer is cleared, the presence timer starts, a silence timer starts for
every other station in the roster, STATE is queued. -/
def State.enterInStep (cause : Cause) (tag : Octet) (s : State) : State :=
  (s.onMc (fun m => { m with state := .inStep, transfer := .cleared,
                              presence := .running Config.presenceInterval,
                              silence := s.startSilence })).reportState .inStep cause tag 0

/-- The founding contents (R50): this station MEMBER with the complete set, everything else empty, all 13 parts
installed. -/
def foundingReplica (me : Station) : TableUnit :=
  { TableUnit.resetValue with
    roster := (Vector.replicate 16 absentEntry).set me ⟨.member, allPartsSet⟩, installed := allPartsSet }

/-- A founding (R50, R140): the order number first becomes the JOIN's number plus 1, then all parts are installed and the
station enters IN STEP. The JOIN request has left the queue. -/
def State.found (order : Word16) (tag : Octet) (s : State) : State :=
  (((s.onAu (fun a => { a with order := order + 1 })).onTu (fun _ => foundingReplica s.me))).enterInStep .founded tag

/-- R30: an arrival record whose arrival has been applied. -/
def ArrivalRecord.applied (a : ArrivalRecord) : Bool :=
  a.phase == .arrived || (a.phase == .abandonQueued && a.generation.isSome)

/-- R30 for one barrier: an applied record becomes NONE and is reported broken by the station itself. -/
def State.breakOwnArrival (b : BarrierNo) (s : State) : State :=
  let a := s.arrival b
  if a.applied then
    (s.setArrival b noArrival).indicate (.barrierBroken a.tag b (a.generation.getD 0) s.me)
  else s

/-- The station takes its own accepted RESYNC (R56, R139): the installed set is emptied, the arrival records change as
R30 gives, and the station enters JOINING. -/
def State.takeResync (s : State) : State :=
  (allBarriers.foldl (fun t b => t.breakOwnArrival b)
    (s.onTu (fun u => { u with installed := 0 }))).enterJoining .resynced 0

end Sys2Proof.Machine
end

