-- ==== Sys2Proof/Machine/Barriers.lean ====
section
/-!
DEFINITION. Barriers (chapter 2): the effect of ARRIVE and ABANDON frames, of an opening and of a break on the barrier
table and on this station's arrival record.
-/

namespace Sys2Proof.Machine

/-- The next use of a barrier: the generation advances by 1, from 255 to 0, and the barrier is idle (R27, R29). -/
def BarrierRecord.nextUse (b : BarrierRecord) : BarrierRecord := ⟨b.generation + 1, 0, 0⟩

/-- The arrival is recorded (R35, ARRIVED and REFUSED ALREADY): the generation is set, and ARRIVE QUEUED becomes ARRIVED
while ABANDON QUEUED stays. -/
def ArrivalRecord.settled (a : ArrivalRecord) (generation : Octet) : ArrivalRecord :=
  { a with generation := some generation, phase := if a.phase = .arriveQueued then .arrived else a.phase }

/-- BARRIER OPEN at this station (R27): queued with the tag of its arrival record; the record becomes NONE, at the sender
by R35, at any other arrived station from ARRIVED or ABANDON QUEUED by R36. -/
def State.openHere (own : Bool) (b : BarrierNo) (generation : Octet) (partyCount : Nat) (s : State) : State :=
  let a := s.arrival b
  let t := s.indicate (.barrierOpen a.tag b generation partyCount)
  if own ∨ a.phase = .arrived ∨ a.phase = .abandonQueued then t.setArrival b noArrival else t

/-- An ARRIVE frame (R26, R27, R35), the cases tested in the order given. -/
def State.applyArrive (sender : Station) (own : Bool) (tag : Octet) (b : BarrierNo) (count : Nat) (s : State) : State :=
  let r := s.barrier b
  if hasStation r.arrived sender then
    if own then
      (s.indicate (.refused tag .already (octetOfFin b) 0)).setArrival b ((s.arrival b).settled r.generation)
    else s
  else if r.partyCount = 0 then
    let t := s.setBarrier b ⟨r.generation, count, addStation 0 sender⟩
    if own then
      (t.indicate (.arrived tag b r.generation 1)).setArrival b ((s.arrival b).settled r.generation)
    else t
  else if count ≠ r.partyCount then
    if own then
      (s.indicate (.refused tag .mismatch (octetOfFin b) (octetOf r.partyCount))).setArrival b noArrival
    else s
  else
    let set := addStation r.arrived sender
    if stationCount set = r.partyCount then
      let t := s.setBarrier b r.nextUse
      if hasStation set s.me then t.openHere own b r.generation r.partyCount else t
    else
      let t := s.setBarrier b ⟨r.generation, r.partyCount, set⟩
      if own then
        (t.indicate (.arrived tag b r.generation (stationCount set))).setArrival b
          ((s.arrival b).settled r.generation)
      else t

/-- An ABANDON frame (R28, R36). -/
def State.applyAbandon (sender : Station) (own : Bool) (tag : Octet) (b : BarrierNo) (generation : Octet) (s : State) :
    State :=
  let r := s.barrier b
  if generation = r.generation ∧ hasStation r.arrived sender then
    let set := dropStation r.arrived sender
    let t := s.setBarrier b ⟨r.generation, if set = 0 then 0 else r.partyCount, set⟩
    if own then
      (t.indicate (.abandoned (s.arrival b).tag b generation .applied)).setArrival b noArrival
    else t
  else if own then (s.indicate (.tooLate tag .abandon (octetOfFin b))).setArrival b noArrival
  else s

/-- The break of one barrier by a departure or a RESYNC (R29). -/
def State.breakBarrier (gone : Station) (b : BarrierNo) (s : State) : State :=
  let r := s.barrier b
  if s.hasInstalled (barrierPart b) ∧ hasStation r.arrived gone then
    let t := s.setBarrier b r.nextUse
    if hasStation r.arrived s.me ∧ s.me ≠ gone then
      (t.indicate (.barrierBroken (s.arrival b).tag b r.generation gone)).setArrival b noArrival
    else t
  else s

end Sys2Proof.Machine
end

