-- ==== Sys2Proof/Machine/Locks.lean ====
section
/-!
DEFINITION. Locks (chapter 1): the effect of CLAIM, RELEASE and WITHDRAW frames and of a pass-on on the lock table and on
this station's claim record, and reconciliation (R22).
-/

namespace Sys2Proof.Machine

/-- The phase taken from the replica (R15, REFUSED ALREADY; R16, REFUSED NOT HOLDER). -/
def State.claimFromReplica (l : LockNo) (s : State) : State :=
  let c := s.claim l
  let r := s.lock l
  if r.holder = some s.me then s.setClaim l { c with phase := .held }
  else if s.me ∈ r.waiters then s.setClaim l { c with phase := c.waitingPhase }
  else s.setClaim l c.ended

/-- This station becomes holder: its claim record becomes HELD with tag and withdrawals kept, and GRANTED carries the tag
the record held (R6, R15, R18; the tags of the lock indications: log 20). -/
def State.grantHere (l : LockNo) (s : State) : State :=
  let c := s.claim l
  (s.setClaim l { c with phase := .held }).indicate (.granted c.tag l)

/-- A pass-on of a lock (R6): to the head of its wait queue, or free. -/
def State.passOn (l : LockNo) (s : State) : State :=
  match (s.lock l).waiters with
  | [] => s.setLock l freeLock
  | w :: rest =>
    let t := s.setLock l ⟨some w, rest⟩
    if w = s.me then t.grantHere l else t

/-- A CLAIM frame (R4, R5, R15), the lock's part installed and the sender MEMBER. `own` where this station sent it, with
the request's tag. -/
def State.applyClaim (sender : Station) (own : Bool) (tag : Octet) (l : LockNo) (flavour : Flavour) (s : State) :
    State :=
  let r := s.lock l
  match r.holder with
  | none =>
    let t := s.setLock l ⟨some sender, r.waiters⟩
    if own then t.grantHere l else t
  | some h =>
    if h = sender ∨ sender ∈ r.waiters then
      if own then (s.indicate (.refused tag .already (octetOfFin l) 0)).claimFromReplica l else s
    else
      match flavour with
      | .wait =>
        let t := s.setLock l ⟨some h, r.waiters ++ [sender]⟩
        if own then
          let c := t.claim l
          (t.setClaim l { c with phase := c.waitingPhase }).indicate (.waiting tag l (r.waiters.length + 1))
        else t
      | .tryOnce =>
        if own then (s.setClaim l (s.claim l).ended).indicate (.notGranted tag l (some h)) else s

/-- A RELEASE frame (R7, R16). -/
def State.applyRelease (sender : Station) (own : Bool) (tag : Octet) (l : LockNo) (s : State) : State :=
  if (s.lock l).holder = some sender then
    let t := s.passOn l
    if own then (t.setClaim l (t.claim l).ended).indicate (.released tag l) else t
  else if own then (s.indicate (.refused tag .notHolder (octetOfFin l) 0)).claimFromReplica l
  else s

/-- A WITHDRAW frame (R8, R17). -/
def State.applyWithdraw (sender : Station) (own : Bool) (tag : Octet) (l : LockNo) (s : State) : State :=
  let r := s.lock l
  let c := (s.claim l).lessWithdrawal
  if sender ∈ r.waiters then
    let t := s.setLock l ⟨r.holder, r.waiters.erase sender⟩
    if own then (t.setClaim l c.ended).indicate (.withdrawn c.tag l) else t
  else if r.holder = some sender then
    if own then (s.setClaim l c).indicate (.tooLate tag .withdraw (octetOfFin l)) else s
  else if own then
    let c' := if c.phase = .waiting ∨ c.phase = .withdrawQueued then c.ended else c
    (s.setClaim l c').indicate (.refused tag .notWaiting (octetOfFin l) 0)
  else s

/-- The departure of a station at one lock (R9). -/
def State.departLock (gone : Station) (l : LockNo) (s : State) : State :=
  let r := s.lock l
  if s.hasInstalled (lockPart l) then
    if r.holder = some gone then s.passOn l
    else if gone ∈ r.waiters then s.setLock l ⟨r.holder, r.waiters.erase gone⟩
    else s
  else s

/-- Reconciliation of one lock at the install of its part (R22). -/
def State.reconcileLock (l : LockNo) (s : State) : State :=
  let c := s.claim l
  let r := s.lock l
  if c.phase = .waiting ∨ c.phase = .withdrawQueued then
    if r.holder = some s.me then s.grantHere l
    else if s.me ∈ r.waiters then s
    else s.setClaim l c.ended
  else s

end Sys2Proof.Machine
end

