-- ==== Sys2Proof/Machine/Words.lean ====
section
/-!
DEFINITION. Status words, signals and watches (chapter 2): the effect of PUBLISH and POST frames, and the evaluation of
watch slots (R45).
-/

namespace Sys2Proof.Machine

/-- Whether a watch's condition holds of a word (R45). -/
def WatchSlot.holds (w : WatchSlot) (v : Word16) : Bool :=
  match w.condition with
  | .equal => v == w.value
  | .notEqual => v != w.value
  | .anyChange => v != w.value

/-- A match: WATCH MATCHED is queued with the slot's tag, the station and the word's value, and the slot is disarmed with
tag 0 (R45). -/
def State.matchWatch (i : SlotNo) (s : State) : State :=
  let w := s.watch i
  (s.indicate (.watchMatched w.tag w.station (s.word w.station))).setWatch i { w with armed := false, tag := 0 }

/-- Evaluation of one slot at a change of the words of the stations `changed` (R45). -/
def State.evaluateWatch (changed : Station → Bool) (i : SlotNo) (s : State) : State :=
  let w := s.watch i
  if w.armed ∧ changed w.station ∧ w.holds (s.word w.station) then s.matchWatch i else s

/-- Evaluation of the armed slots in ascending slot number (R45). -/
def State.evaluateWatches (changed : Station → Bool) (s : State) : State :=
  allSlots.foldl (fun t i => t.evaluateWatch changed i) s

/-- A PUBLISH frame (R39), the word's part installed and the sender MEMBER: the write, PUBLISHED at the sender, then the
watches. -/
def State.applyPublish (sender : Station) (own : Bool) (tag : Octet) (v : Word16) (s : State) : State :=
  ((s.setWord sender v).indicateIf own (.published tag v)).evaluateWatches (· == sender)

/-- A POST frame (R40): POSTED at the sender, then SIGNAL at the target; or REFUSED NOT MEMBER. -/
def State.applyPost (sender : Station) (own : Bool) (tag : Octet) (target : Station) (code : Octet) (s : State) :
    State :=
  if s.standing target = .absent then s.indicateIf own (.refused tag .notMember (octetOfFin target) 0)
  else (s.indicateIf own (.posted tag target code)).indicateIf (target == s.me) (.signal sender code)

/-- The departure's effect on the word (R57 step 4). -/
def State.departWord (gone : Station) (s : State) : State :=
  if s.hasInstalled (wordPart gone) then (s.setWord gone 0).evaluateWatches (· == gone) else s

end Sys2Proof.Machine
end

