-- ==== Sys2Proof/Machine/Roster.lean ====
section
/-!
DEFINITION. The roster and departure (chapter 3): the departure effect (R57), the loss of the cluster (R59), and the
effect of JOIN, LEAVE, EVICT and RESYNC frames at an applying station.
-/

namespace Sys2Proof.Machine

/-- A JOINING entry with an empty installed set (R49, R55). -/
def joiningEntry : RosterEntry := ⟨.joining, 0⟩

/-- An IN STEP station starts or restarts the silence timer of a peer that is MEMBER or JOINING in its roster (R124). -/
def State.hearSilence (t : Station) (s : State) : State :=
  if s.station = .inStep ∧ t ≠ s.me ∧ s.standing t ≠ .absent then s.setSilence t (.running Config.lossTimeout) else s

/-- The departure's effects on locks, barriers and the word (R57 steps 2 to 4). -/
def State.departItems (gone : Station) (s : State) : State :=
  (allBarriers.foldl (fun t b => t.breakBarrier gone b)
    (allLocks.foldl (fun t l => t.departLock gone l) s)).departWord gone

/-- The departure of a station (R57, R58). `peer` is the peer indication of the frame that caused it, queued where this
station was IN STEP when the apply began (R64). A roster left with no MEMBER is the loss of the cluster, and nothing
further is carried out (R59). -/
def State.depart (gone : Station) (peer : Indication) (wasInStep : Bool) (s : State) : State :=
  let t := (s.setEntry gone absentEntry).setSilence gone .cleared
  if noMember t.tu.roster then t.loseCluster else (t.indicateIf wasInStep peer).departItems gone

/-- A JOIN from another station (R49, R51): a join of an ABSENT station, or a rejoin. -/
def State.applyJoin (sender : Station) (wasInStep : Bool) (s : State) : State :=
  if s.standing sender = .absent then
    ((s.setEntry sender joiningEntry).indicateIf wasInStep (.peerJoined sender .new)).hearSilence sender
  else
    let t := s.depart sender (.peerJoined sender .rejoin) wasInStep
    if noMember (s.tu.roster.set sender absentEntry) then t
    else (t.setEntry sender joiningEntry).hearSilence sender

/-- A LEAVE (R53). -/
def State.applyLeave (sender : Station) (wasInStep : Bool) (s : State) : State :=
  if s.standing sender = .absent then s else s.depart sender (.peerLeft sender) wasInStep

/-- An EVICT from a MEMBER (R54). -/
def State.applyEvict (sender target : Station) (wasInStep : Bool) (s : State) : State :=
  if s.standing target = .absent then s else s.depart target (.peerLost target sender) wasInStep

/-- A RESYNC from a MEMBER (R55). -/
def State.applyResync (sender : Station) (wasInStep : Bool) (s : State) : State :=
  let t := s.setEntry sender joiningEntry
  if noMember t.tu.roster then t.loseCluster
  else allBarriers.foldl (fun u b => u.breakBarrier sender b) (t.indicateIf wasInStep (.peerJoined sender .resync))

end Sys2Proof.Machine
end

