-- ==== Sys2Proof/Machine/Snapshot.lean ====
section
/-!
DEFINITION. Snapshot transfer (chapter 9): the content of a part (R143), the choice of segment (R145), the roster step
(R147, R148) and the install of a part (R149).
-/

namespace Sys2Proof.Machine

/-! ## The content of a part, and the choice -/

/-- Four consecutive items from `4 * g`. -/
def fourOf {α : Type} {n : Nat} (v : Vector α n) (g : Nat) (h : 4 * g + 4 ≤ n) : Vector α 4 :=
  #v[v[4 * g], v[4 * g + 1], v[4 * g + 2], v[4 * g + 3]]

/-- Eight consecutive items from `8 * g`. -/
def eightOf {α : Type} {n : Nat} (v : Vector α n) (g : Nat) (h : 8 * g + 8 ≤ n) : Vector α 8 :=
  #v[v[8 * g], v[8 * g + 1], v[8 * g + 2], v[8 * g + 3],
    v[8 * g + 4], v[8 * g + 5], v[8 * g + 6], v[8 * g + 7]]

/-- The current contents of a part in this replica (R71, R143). -/
def TableUnit.content (u : TableUnit) (p : PartNo) : PartContent :=
  if p.val = 0 then .roster u.roster
  else if h : p.val ≤ 8 then .locks ⟨p.val - 1, by omega⟩ (fourOf u.locks (p.val - 1) (by omega))
  else if h' : p.val ≤ 10 then .barriers ⟨p.val - 9, by omega⟩ (fourOf u.barriers (p.val - 9) (by omega))
  else .words ⟨p.val - 11, by omega⟩ (eightOf u.words (p.val - 11) (by omega))

/-- A roster entry that is JOINING and lacks a part. -/
def RosterEntry.lacks (e : RosterEntry) (p : PartNo) : Bool := e.standing == .joining && !hasPart e.installed p

/-- The lowest part missing from the installed set of any JOINING entry (R71, R145). -/
def lowestMissing (roster : Vector RosterEntry 16) : Option PartNo :=
  allParts.find? (fun p => roster.toList.any (fun e => e.lacks p))

/-! ## The roster step -/

/-- The roster step at one entry (R147 step 2): a JOINING entry that lacks the part gains it, and becomes MEMBER when its
set holds all 13 parts. -/
def RosterEntry.gain (p : PartNo) (e : RosterEntry) : RosterEntry :=
  if e.lacks p then
    if addPart e.installed p = allPartsSet then ⟨.member, allPartsSet⟩ else ⟨.joining, addPart e.installed p⟩
  else e

/-- The roster step at one entry of this replica, with PEER IN STEP where it becomes MEMBER and this station was IN STEP
when the apply began (R64, R147). -/
def State.gainEntry (p : PartNo) (wasInStep : Bool) (t : Station) (s : State) : State :=
  let e := s.entry t
  let e' := e.gain p
  (s.setEntry t e').indicateIf (wasInStep && e.standing == .joining && e'.standing == .member) (.peerInStep t)

/-- The roster step (R147 step 2), in ascending station number (R152). -/
def State.rosterStep (p : PartNo) (wasInStep : Bool) (s : State) : State :=
  allStations.foldl (fun t k => t.gainEntry p wasInStep k) s

/-! ## The install of a part -/

/-- Replace consecutive items from a base. -/
def replaceFrom {α : Type} {n : Nat} (v : Vector α n) (base : Nat) : List α → Vector α n
  | [] => v
  | x :: xs => replaceFrom (v.setIfInBounds base x) (base + 1) xs

/-- The content replaces this station's items of the part (R149). -/
def TableUnit.replace (u : TableUnit) : PartContent → TableUnit
  | .roster es => { u with roster := es }
  | .locks g ls => { u with locks := replaceFrom u.locks (4 * g.val) ls.toList }
  | .barriers g bs => { u with barriers := replaceFrom u.barriers (4 * g.val) bs.toList }
  | .words g ws => { u with words := replaceFrom u.words (8 * g.val) ws.toList }

/-- Reconciliation for a lock part (R22), watch evaluation for a status part (R45), nothing for the others. -/
def State.settleInstall (content : PartContent) (s : State) : State :=
  match content with
  | .roster _ => s
  | .locks g _ =>
    (allLocks.filter (fun l => l.val / 4 == g.val)).foldl (fun t l => t.reconcileLock l) s
  | .barriers _ _ => s
  | .words g _ => s.evaluateWatches (fun k => k.val / 8 == g.val)

/-- The install of a part (R141, R149): the content replaces the part, reconciliation or watch evaluation runs, the part
is added to the local installed set, and a complete set takes the station to IN STEP with its joining cause. -/
def State.installPart (content : PartContent) (s : State) : State :=
  let t := (s.onTu (·.replace content)).settleInstall content
  let u := t.onTu (fun x => { x with installed := addPart x.installed content.part })
  if u.tu.installed = allPartsSet then u.enterInStep u.mc.joiningCause.cause 0 else u

/-- A SNAPSHOT at a station with part 0 installed (R146, R147, R150), its sender MEMBER. -/
def State.applySnapshot (content : PartContent) (wasInStep : Bool) (s : State) : State :=
  let t := s.rosterStep content.part wasInStep
  if content.part ≠ 0 ∧ s.station = .joining ∧ !s.hasInstalled content.part then t.installPart content else t

/-- A SNAPSHOT at a JOINING station with no part installed (R146, R147 step 1, R149, R151): a part 0 whose own content
shows its sender MEMBER is installed where it shows this station JOINING with an empty set, and takes the station out of
the cluster otherwise. -/
def State.installFirst (sender : Station) (content : PartContent) (s : State) : State :=
  match content with
  | .roster es =>
    if es[sender].standing = .member then
      if es[s.me] = joiningEntry then (s.installPart content).rosterStep 0 false else s.loseCluster
    else s
  | .locks _ _ => s
  | .barriers _ _ => s
  | .words _ _ => s

end Sys2Proof.Machine
end

