-- ==== Sys2Proof/Machine/Sending.lean ====
section
/-!
DEFINITION. The Send Selector (chapter 7): the choice of an item (R116), the build of its frame (R69 to R72), the start of
an attempt (R103, R118, R120), and its ends: failed (R121, R122), lost (R104, R122) and objected with ORDER (R89, R122).
-/

namespace Sys2Proof.Machine

/-! ## The choice (R116, Table 7-2) -/

/-- The lowest target for which an EVICT is pending (Table 7-2, R125). -/
def State.lowestEvict (s : State) : Option Station := allStations.find? (fun t => s.evictPending t)

/-- The SNAPSHOT as a candidate: the duty is pending and a part is missing from some JOINING entry (R71; log 16). -/
def State.snapshotCandidate (s : State) : Bool := s.snapshotPending && (lowestMissing s.tu.roster).isSome

/-- The head request, where its kind is admitted. -/
def State.headIf (offers : RequestBody → Bool) (s : State) : Option Item :=
  match s.hp.queue with
  | r :: _ => if offers r.body then some (.request r.tag) else none
  | [] => none

/-- The PRESENCE as a candidate. -/
def State.presenceCandidate (s : State) : Option Item := if s.presencePending then some .presence else none

/-- The first candidate in the order Table 7-2 gives for the station state (R116). -/
def State.choose (s : State) : Option Item :=
  match s.station with
  | .watch => none
  | .outside => s.headIf (· == .join)
  | .joining => (s.headIf (· == .leave)).or s.presenceCandidate
  | .inStep =>
    match s.lowestEvict with
    | some t => some (.evict t)
    | none =>
      if s.snapshotCandidate then some .snapshot else (s.headIf (fun _ => true)).or s.presenceCandidate
  | .diverged => (s.headIf (· == .leave)).or (some .resync)
  | .halted => none

/-! ## The build (R69, Table 4-3) -/

/-- The body built for the request at the head; none for an ABANDON whose arrival record is not ABANDON QUEUED with a
generation recorded (R34, R72). -/
def State.buildRequest (body : RequestBody) (s : State) : Option FrameBody :=
  match body with
  | .join => some (.join (!s.au.clusterKnown))
  | .leave => some .leave
  | .claim l => some (.claim l .wait)
  | .tryClaim l => some (.claim l .tryOnce)
  | .release l => some (.release l)
  | .withdraw l => some (.withdraw l)
  | .arrive b c => some (.arrive b c)
  | .abandon b =>
    let a := s.arrival b
    if a.phase = .abandonQueued then a.generation.map (.abandon b) else none
  | .publish v => some (.publish v)
  | .post t k => some (.post t k)

/-- The body built for an item (Table 4-3). -/
def State.buildBody (item : Item) (s : State) : Option FrameBody :=
  match item with
  | .request _ =>
    match s.hp.queue with
    | r :: _ => s.buildRequest r.body
    | [] => none
  | .evict t => some (.evict t)
  | .resync => some .resync
  | .snapshot => (lowestMissing s.tu.roster).map (fun p => .snapshot (s.tu.content p))
  | .presence => some .presence

/-- Set the in-attempt mark on the head request (R159). -/
def markHead : List Request → List Request
  | r :: rest => { r with inAttempt := true } :: rest
  | [] => []

/-- An attempt starts (R118): the frame is built with the station's number and order number (R69), the Line Engine begins
the head, whose start bit sets the gap count back to 0 (R110), and the counted item is compared with the chosen item (R120). -/
def State.startAttempt (item : Item) (body : FrameBody) (s : State) : State :=
  let t := ((s.onSs (fun x =>
    { attempt := some ⟨⟨s.me, s.au.order, body⟩, some item⟩,
      counted := some item,
      counter := if x.counted = some item then x.counter else 0 })).onLe
    (fun e => { e with line := .contending, gapCount := 0, rxBits := [] })).onAu (fun a => { a with partialFrame := [], heard := none })
  match item with
  | .request _ => t.onHp (fun h => { h with queue := markHead h.queue })
  | .evict _ => t
  | .resync => t
  | .snapshot => t
  | .presence => t

/-- An ABANDON at the head that finds nothing to send is removed and answered TOO LATE, its record left as it is (R34,
R72). It uses no attempt; where it was the counted item, its leaving the queue makes the counted item none and the counter
0 as R120 says of any cause (R72's "does not change the attempt counter" read so: log 26). -/
def State.answerDeadAbandon (s : State) : State :=
  match s.hp.queue with
  | ⟨.abandon b, tag, _, _⟩ :: _ => (s.removeRequest tag).indicate (.tooLate tag .abandon (octetOfFin b))
  | _ => s

/-- The choice and the build at one contention point, repeated after each ABANDON answered without a frame (R116). `n`
bounds the repetitions: the queue's length is enough, since each removes a request. -/
def State.offer : Nat → State → State
  | 0, s => s
  | n + 1, s =>
    match s.choose with
    | none => s
    | some item =>
      match s.buildBody item with
      | some body => s.startAttempt item body
      | none => State.offer n s.answerDeadAbandon

/-- The conditions of R103 on the Line Engine, the Acceptance Unit and the station state; whether there is a frame to
offer is decided by the choice. -/
def State.mayBegin (s : State) : Bool :=
  s.le.line == .idle && !s.le.yieldFlag && !s.au.orderHold && s.station != .watch && s.station != .halted

/-! ## The end of an attempt (R118, Table 7-3) -/

/-- The attempt in hand is dropped and the in-attempt mark cleared (R69, R159). -/
def State.dropAttempt (s : State) : State := (s.onSs (fun x => { x with attempt := none })).clearMarks

/-- Set the yield flag (R110). -/
def State.setYield (s : State) : State := s.onLe (fun e => { e with yieldFlag := true })

/-- The item the attempt's outcome reaches. -/
def State.attemptItem (s : State) : Option Item := s.ss.attempt.bind (·.item)

/-- A marked request whose attempt ended otherwise than accepted: removed, CANCELLED (R122). -/
def State.cancelMarked (s : State) : State :=
  match s.requestInAttempt with
  | some r => if r.cancelMark then s.cancelRequest r else s
  | none => s

/-- Whether the request in attempt carries a cancel mark (R122). -/
def State.attemptMarked (s : State) : Bool :=
  match s.requestInAttempt with
  | some r => r.cancelMark
  | none => false

/-- The eighth failure ends the item (R121): a request is removed and answered LINE FAULT; a duty is dropped, and is
pending again at once where its condition still holds (Table 7-1), so nothing of it is stored. -/
def State.endItem (s : State) : State :=
  match s.requestInAttempt with
  | some r => (s.faultRequest r).uncount
  | none => s.uncount

/-- An attempt ends REJECT or truncated: a failed attempt (R121, R122). -/
def State.failAttempt (s : State) : State :=
  let t := s.setYield
  match s.attemptItem with
  | none => t.dropAttempt
  | some _ =>
    let u := t.onSs (fun x => { x with counter := x.counter + 1 })
    if u.attemptMarked then u.cancelMarked.dropAttempt
    else if Config.attemptLimit ≤ u.ss.counter then u.endItem.dropAttempt
    else u.dropAttempt

/-- An attempt loses arbitration (R104, R122): neither the counter nor the yield flag changes; a marked request is
removed and answered CANCELLED. -/
def State.loseAttempt (s : State) : State :=
  match s.attemptItem with
  | none => s.dropAttempt
  | some _ => s.cancelMarked.dropAttempt

/-- Set the order hold (R90). -/
def State.setOrderHold (c : Bool) (s : State) : State := s.onAu (fun a => { a with orderHold := c })

/-- The station acts on an ORDER objection to its own frame by its state (R89). -/
def State.actOnOrder (frame : Frame) (s : State) : State :=
  match s.station with
  | .inStep => s.enterDiverged .orderObjected
  | .joining => if s.tu.installed = 0 then s else s.leaveClusterFor .orderObjected
  | .outside => if frame.body = .join true then s.setClusterKnown true else s
  | .diverged => s
  | .watch => s
  | .halted => s

/-- An attempt ends ORDER (R88, R89, R122): not a failed attempt; the order hold is set; a marked request is removed and
answered CANCELLED first. -/
def State.orderAttempt (frame : Frame) (s : State) : State :=
  let t := s.setYield
  let u := match t.attemptItem with
    | none => t.dropAttempt
    | some _ => t.cancelMarked.dropAttempt
  (u.setOrderHold true).actOnOrder frame

end Sys2Proof.Machine
end

