-- ==== Sys2Proof/Machine/Acceptance.lean ====
section
/-!
DEFINITION. Acceptance (chapter 5): the objection decision (R78), the slot outcome (R80), counting (R83, Table 5-2), and
the handling of an accepted frame (R87).
-/

namespace Sys2Proof.Machine

/-- Equal, ahead or behind (R82): the distance d of a frame's number from the station's own, modulo 65536. -/
def orderDistance (frame own : Word16) : Nat := (frame - own).toNat

/-- The frame is behind the station: d = 32768 to 65535 (R82). -/
def frameBehind (frame own : Word16) : Bool := decide (32768 ≤ orderDistance frame own)

/-- The frame is ahead of the station: d = 1 to 32767 (R82). -/
def frameAhead (frame own : Word16) : Bool := decide (1 ≤ orderDistance frame own ∧ orderDistance frame own ≤ 32767)

/-- The objection a station decides to a frame it did not send (R77, R78). -/
def State.decideObjection (c : Classification) (s : State) : Objection :=
  if s.station.hasStake then
    match c with
    | .badCheck => .reject
    | .malformed => .reject
    | .good f =>
      if s.station = .inStep ∧ (frameBehind f.order s.au.order ∨ f.body = .join true) then .order else .none
  else .none

/-- The report the Line Engine makes of a slot window (R109): no character, or a character's value. -/
def slotReport : SlotSeen → Option Octet
  | .nothing => none
  | .startBit o => some o
  | .lateDominant => some 0x00

/-- The slot outcome read from the report (R80). -/
def slotOutcome : Option Octet → SlotOutcome
  | none => .accepted
  | some o => if o = 0x3C then .ordered else .rejected

/-- The form of counting an accepted frame (R83, Table 5-2). An IN STEP station never counts a frame behind its number,
since it objected to it; the model takes such a frame to DIVERGED like an ahead one (log 14). -/
def State.counting (frame : Frame) (s : State) : Counting :=
  match s.station with
  | .inStep => if frame.order = s.au.order then .apply else .diverge
  | .joining =>
    if s.tu.installed = 0 then .track
    else if frame.order = s.au.order then .apply
    else .leaveCluster
  | .diverged => .track
  | .outside => .track
  | .watch => .track
  | .halted => .track

/-- R56: the test of the evictor's standing, made at a station that is IN STEP, or JOINING with part 0 installed; an ahead
EVICT has made an IN STEP station DIVERGED before it (log 15). -/
def State.takesEvict (evictor : Station) (s : State) : Bool :=
  match s.station with
  | .inStep => s.standing evictor == .member
  | .joining => !s.hasInstalled 0 || s.standing evictor == .member
  | .diverged => true
  | .watch => false
  | .outside => false
  | .halted => false

/-- The frame's effect on this station's own state (R87 step 5: R50, R52, R56). -/
def State.takeNamed (own : Bool) (tag : Octet) (f : Frame) (s : State) : State :=
  match f.body with
  | .join found =>
    if own ∧ s.station = .outside then
      if found then s.found f.order tag else s.enterJoining .joined tag
    else s
  | .leave => if own ∧ s.station.hasStake then s.enterOutside .left tag else s
  | .evict target => if target = s.me ∧ s.takesEvict f.sender then s.enterOutside .evicted 0 else s
  | .resync => if own ∧ s.station = .diverged then s.takeResync else s
  | .release _ => s
  | .withdraw _ => s
  | .claim _ _ => s
  | .abandon _ _ => s
  | .arrive _ _ => s
  | .publish _ => s
  | .post _ _ => s
  | .snapshot _ => s
  | .presence => s

/-- Own state (R87 step 5): an ahead frame takes an IN STEP station to DIVERGED, an out-of-step frame takes a joiner out
of the cluster with no further own-state effect (R92), and the frames of R56 are taken. -/
def State.takeOwnState (c : Counting) (own : Bool) (tag : Octet) (f : Frame) (s : State) : State :=
  match c with
  | .apply => s.takeNamed own tag f
  | .track => s.takeNamed own tag f
  | .diverge => (s.enterDiverged .aheadFrame).takeNamed own tag f
  | .leaveCluster => s.leaveClusterFor .aheadFrame

/-- An accepted own frame restarts the presence timer while it is kept (R123). -/
def State.hearPresence (own : Bool) (s : State) : State :=
  if own ∧ (s.station = .joining ∨ s.station = .inStep) then
    s.onMc (fun m => { m with presence := .running Config.presenceInterval })
  else s

/-- An accepted SNAPSHOT restarts the transfer timer of a JOINING station (R60). -/
def State.hearTransfer (f : Frame) (s : State) : State :=
  match f.body with
  | .snapshot _ =>
    if s.station = .joining then s.onMc (fun m => { m with transfer := .running Config.lossTimeout }) else s
  | _ => s

/-- Heard (R87 step 6): the silence timer of the sender (R124), the presence timer (R123), the transfer timer (R60). -/
def State.hear (own : Bool) (f : Frame) (s : State) : State :=
  ((s.hearSilence f.sender).hearPresence own).hearTransfer f

/-- The effect of an accepted frame on the installed parts (R87 step 7; R3, R25, R38, R48, R61). An own frame that R61 gives
no effect leaves its local record as it is (log 19). -/
def State.applyFrame (own : Bool) (tag : Octet) (f : Frame) (s : State) : State :=
  let wasInStep := s.station == .inStep
  let fromMember := s.standing f.sender == .member
  if s.hasInstalled 0 then
    match f.body with
    | .join _ => s.applyJoin f.sender wasInStep
    | .leave => s.applyLeave f.sender wasInStep
    | .presence => s
    | .evict target => if fromMember then s.applyEvict f.sender target wasInStep else s
    | .resync => if fromMember then s.applyResync f.sender wasInStep else s
    | .release l => if fromMember && s.hasInstalled (lockPart l) then s.applyRelease f.sender own tag l else s
    | .withdraw l => if fromMember && s.hasInstalled (lockPart l) then s.applyWithdraw f.sender own tag l else s
    | .claim l v => if fromMember && s.hasInstalled (lockPart l) then s.applyClaim f.sender own tag l v else s
    | .abandon b g => if fromMember && s.hasInstalled (barrierPart b) then s.applyAbandon f.sender own tag b g else s
    | .arrive b c => if fromMember && s.hasInstalled (barrierPart b) then s.applyArrive f.sender own tag b c else s
    | .publish v => if fromMember && s.hasInstalled (wordPart f.sender) then s.applyPublish f.sender own tag v else s
    | .post t k => if fromMember then s.applyPost f.sender own tag t k else s
    | .snapshot content => if fromMember then s.applySnapshot content wasInStep else s
  else s

/-- Apply (R87 step 7): where the counting decision was to apply and the station has not left the cluster; a JOINING
station with no part installed takes a SNAPSHOT here, although it tracks (R149). -/
def State.applyStep (c : Counting) (before : StationState) (own : Bool) (tag : Octet) (f : Frame) (s : State) : State :=
  if s.station = before then
    match c with
    | .apply => s.applyFrame own tag f
    | .track =>
      match f.body with
      | .snapshot content => if s.station = .joining then s.installFirst f.sender content else s
      | _ => s
    | .diverge => s
    | .leaveCluster => s
  else s

/-- The order number becomes the frame's number plus 1 (R83, R87 step 8), and the order hold is cleared (R90). -/
def State.countOrder (f : Frame) (s : State) : State :=
  s.onAu (fun a => { a with order := f.order + 1, orderHold := false })

/-- The request of the accepted attempt leaves the request queue (R119, R159). -/
def State.settleRequest (s : State) : State :=
  match s.requestInAttempt with
  | some r => s.removeRequest r.tag
  | none => s

/-- The tag of the request in attempt, 0 where there is none. -/
def State.attemptTag (s : State) : Octet :=
  match s.requestInAttempt with
  | some r => r.tag
  | none => 0

/-- The attempt ends accepted (R119, R122): counter 0, counted item none, the yield flag set; TOO LATE to a cancel mark
after the frame's own indications. -/
def State.settleAccepted (marked : Bool) (tag : Octet) (s : State) : State :=
  ((s.setYield.dropAttempt).uncount).indicateIf marked (.tooLate tag .cancel 0)

/-- R94: the states that make the duplicate-station test. -/
def StationState.testsDuplicate : StationState → Bool
  | .outside => true
  | .joining => true
  | .inStep => true
  | .diverged => true
  | .watch => false
  | .halted => false

/-- The handling of an accepted frame that this station has in hand (R87 steps 3 to 9). -/
def State.handAccepted (own : Bool) (f : Frame) (s : State) : State :=
  let marked := own && s.attemptMarked
  let tag := if own then s.attemptTag else 0
  let s1 := (if own then s.settleRequest else s).setClusterKnown true
  let c := s1.counting f
  let s2 := s1.takeOwnState c own tag f
  let s3 := s2.hear own f
  let s4 := s3.applyStep c s1.station own tag f
  let s5 := s4.countOrder f
  if own then s5.settleAccepted marked tag else s5

/-- The handling of an accepted frame (R87): the duplicate test (R94), the hand-in test (R83), then the rest. -/
def State.acceptFrame (own : Bool) (hand : Option Frame) (s : State) : State :=
  match hand with
  | none => s.setClusterKnown true
  | some f =>
    if s.station.testsDuplicate ∧ f.sender = s.me ∧ !own then s.enterHalted .duplicateStation
    else s.handAccepted own f

/-- The frame a classification leaves in hand (R83). -/
def Classification.hand : Classification → Option Frame
  | .good f => some f
  | .badCheck => none
  | .malformed => none

/-- The Line Engine enters IDLE with its gap count at 0 and the frame is dropped (R81, R99, R109). -/
def State.endSlot (s : State) : State :=
  (s.onLe (fun e => { e with line := .idle, gapCount := 0, rxBits := [] })).onAu
    (fun a => { a with partialFrame := [], heard := none })

end Sys2Proof.Machine
end

