-- ==== Sys2Proof/Machine/Operands.lean ====
section
/-!
DEFINITION. The arguments of a commit in REQUEST B to D (Table 10-2, Table 12-6), and the bits of PORT CONTROL and
IRQ ENABLE (Table 12-4).
-/

namespace Sys2Proof.Machine

/-- The lock in REQUEST B, where it is not above 31. -/
def State.lockArgument (s : State) : Option LockNo := finOfOctet 32 s.hp.requestB

/-- The barrier in REQUEST B, where it is not above 7. -/
def State.barrierArgument (s : State) : Option BarrierNo := finOfOctet 8 s.hp.requestB

/-- The station in REQUEST B, where it is not above 15. -/
def State.stationArgument (s : State) : Option Station := finOfOctet 16 s.hp.requestB

/-- The slot in REQUEST B of DISARM WATCH, where it is not above 3. -/
def State.slotArgument (s : State) : Option SlotNo := finOfOctet 4 s.hp.requestB

/-- The party count in REQUEST C, where it is 2 to 16 (R32). -/
def State.partyArgument (s : State) : Option Nat :=
  if 2 ≤ s.hp.requestC.toNat ∧ s.hp.requestC.toNat ≤ 16 then some s.hp.requestC.toNat else none

/-- The value of a PUBLISH: REQUEST B high, REQUEST C low (Table 12-6). -/
def State.publishArgument (s : State) : Word16 := word16 s.hp.requestB s.hp.requestC

/-- The match value of an ARM WATCH: REQUEST C high, REQUEST D low (Table 12-6). -/
def State.matchArgument (s : State) : Word16 := word16 s.hp.requestC s.hp.requestD

/-- The slot of an ARM WATCH: bits 7 and 6 of REQUEST B. -/
def armSlot (o : Octet) : SlotNo := ⟨o.toNat / 64, by omega⟩

/-- The condition of an ARM WATCH: bits 5 and 4 of REQUEST B; the unlisted code 3 is none (R177). -/
def armCondition (o : Octet) : Option WatchCondition :=
  match o.toNat / 16 % 4 with
  | 0 => some .equal
  | 1 => some .notEqual
  | 2 => some .anyChange
  | _ => none

/-- The station of an ARM WATCH: bits 3 to 0 of REQUEST B. -/
def armStation (o : Octet) : Station := ⟨o.toNat % 16, by omega⟩

/-- PORT CONTROL bit 0: RESTART. -/
def controlRestart (o : Octet) : Bool := o.getLsbD 0

/-- PORT CONTROL bit 1: CLEAR OVERRUN. -/
def controlClearOverrun (o : Octet) : Bool := o.getLsbD 1

/-- PORT CONTROL bit 2: REWIND. -/
def controlRewind (o : Octet) : Bool := o.getLsbD 2

/-- IRQ ENABLE bit 0: the indication-pending enable. -/
def enablePending (o : Octet) : Bool := o.getLsbD 0

/-- IRQ ENABLE bit 1: the overrun enable. -/
def enableOverrun (o : Octet) : Bool := o.getLsbD 1

end Sys2Proof.Machine
end

