-- ==== Sys2Proof/Machine/Port.lean ====
section
/-!
DEFINITION. The reset pin and the host port's plain accesses (chapters 8 and 10): POWER_ON_RESET, RESETN_ASSERTED,
RESTART, CLEAR_OVERRUN, REWIND, IRQ_ENABLE, INDICATION_WINDOW, REGISTER_WRITE.
-/

namespace Sys2Proof.Machine

/-- The outcome of every meaning of this model: the block is total. -/
abbrev Out := Host.Outcome State Fault Refusal

/-- While power-on reset is asserted no host port access is taken and nothing runs (R131; log 9). -/
def State.unlessReset (f : State → State) (s : State) : State := if s.resetAsserted then s else f s

/-! ## Reset -/

/-- Release of power-on reset (R131, Table 8-4): the straps are sampled, every block takes its reset value. -/
def execPowerOnReset (station : Station) (bitRate : BitVec 2) (s : State) : Out :=
  .next (State.afterReset ⟨station, bitRate⟩ s.hostData s.pending)

/-- While power-on reset is asserted the line is released, HIRQn is held released (`State.hirqAsserted`), no host port
access is taken (`State.unlessReset`), and an attempt ends without an outcome (R118, R131). -/
def execResetnAsserted (s : State) : Out :=
  .next ((({ s with resetAsserted := true }).onLe (fun e => { e with line := .idle, rxBits := [] })).onAu
    (fun a => { a with partialFrame := [], heard := none })).dropAttempt

/-! ## PORT CONTROL (R172) -/

/-- The frame whose slot window runs at a port restart: held with no objection and not as an own frame, for a slot end that
comes at the same time and is taken after the restart (R132; log 27). -/
def State.slotAtRestart (s : State) : Option HeardFrame :=
  if s.le.line = .slot then s.au.heard.map (fun h => ⟨h.classification, .none, false⟩) else none

/-- A port restart (R132): the Table 8-4 values but for the straps, then STATE with the number of requests that were
queued. -/
def State.portRestart (s : State) : State :=
  ((State.afterReset s.straps s.hostData s.pending).onAu (fun a => { a with heard := s.slotAtRestart })).reportState
    .watch .restart 0 s.hp.queue.length

/-- CLEAR OVERRUN (R167). -/
def State.clearOverrun (s : State) : State := s.onHp (fun h => { h with overrun := false })

/-- REWIND (R166). -/
def State.rewind (s : State) : State := s.onHp (fun h => { h with readPos := 0 })

/-- A write to PORT CONTROL carries out the commands it names; RESTART disregards the other two (R172). -/
def State.portControl (o : Octet) (s : State) : State :=
  if controlRestart o then s.portRestart
  else
    let t := if controlClearOverrun o then s.clearOverrun else s
    if controlRewind o then t.rewind else t

/-- RESTART (R132, R172). -/
def execRestart (o : Octet) (s : State) : Out := .next (s.unlessReset (State.portControl o))

/-- CLEAR_OVERRUN (R167, R172). -/
def execClearOverrun (o : Octet) (s : State) : Out := .next (s.unlessReset (State.portControl o))

/-- REWIND (R166, R172). -/
def execRewind (o : Octet) (s : State) : Out := .next (s.unlessReset (State.portControl o))

/-! ## IRQ ENABLE, INDICATION WINDOW, REQUEST -/

/-- A write to IRQ ENABLE sets both enables from the octet (R168). -/
def State.setEnables (o : Octet) (s : State) : State :=
  s.onHp (fun h => { h with irqPending := enablePending o, irqOverrun := enableOverrun o })

/-- IRQ_ENABLE (R168). -/
def execIrqEnable (o : Octet) (s : State) : Out := .next (s.unlessReset (State.setEnables o))

/-- The read position moves to the next octet; at c the head record is removed and the position returns to kind; an
empty queue is left as it is (R166). -/
def HostPort.advance (h : HostPort) : HostPort :=
  match h.indications with
  | [] => h
  | _ :: rest =>
    if h.readPos = 4 then { h with indications := rest, readPos := 0 } else { h with readPos := h.readPos + 1 }

/-- A read of INDICATION WINDOW returns the octet at the read position, 00h of an empty queue, and advances (R166). -/
def State.readWindow (s : State) : State := { s with hostData := s.hp.windowOctet, hp := s.hp.advance }

/-- INDICATION_WINDOW (R166). -/
def execIndicationWindow (s : State) : Out := .next (s.unlessReset State.readWindow)

/-- A write to REQUEST A to D stores the octet written; a write to offset 6 is disregarded (R157). -/
def HostPort.write (offset : WriteOffset) (o : Octet) (h : HostPort) : HostPort :=
  match offset with
  | .requestA => { h with requestA := o }
  | .requestB => { h with requestB := o }
  | .requestC => { h with requestC := o }
  | .requestD => { h with requestD := o }
  | .offset6 => h

/-- REGISTER_WRITE (R157). -/
def execRegisterWrite (offset : WriteOffset) (o : Octet) (s : State) : Out :=
  .next (s.unlessReset (State.onHp (HostPort.write offset o)))

end Sys2Proof.Machine
end

