-- ==== Sys2Proof/Machine/Commit.lean ====
section
/-!
DEFINITION. The commits (chapter 10, and the commit rules of chapters 1 and 2): COMMIT_UNKNOWN_KIND to QUERY_WORD. A
commit is a write of a tag to COMMIT; its kind and arguments stand in REQUEST A to D (R158).
-/

namespace Sys2Proof.Machine

/-! ## What a commit writes (R158) -/

/-- Write COMMIT RESULT and ANSWER A to D. -/
def State.answer (r : CommitResult) (a b c d : Octet) (s : State) : State :=
  s.onHp (fun h => { h with commitResult := r, answerA := a, answerB := b, answerC := c, answerD := d })

/-- A refused commit: the result, 00h in all four ANSWER octets, and no effect (R158). -/
def State.refuse (r : CommitResult) (s : State) : State := s.answer r 0 0 0 0

/-- A commit that passes its checks, answered with the number of requests in the queue after it (R158). -/
def State.acceptCounted (s : State) : State := s.answer .accepted (octetOf s.hp.queue.length) 0 0 0

/-- A queued kind accepted: the request is placed at the tail (R158, R159). -/
def State.acceptQueued (body : RequestBody) (tag : Octet) (s : State) : State := (s.enqueue body tag).acceptCounted

/-! ## The checks shared by the queued kinds -/

/-- BAD TAG, then DUPLICATE TAG (R12 steps 4 and 5). -/
def State.tagRefusal (tag : Octet) (s : State) : Option CommitResult :=
  if tag = 0 then some .badTag else if s.tagQueued tag then some .duplicateTag else none

/-- Steps 1 to 5 of R12 and R32: HALTED; NOT IN STEP in WATCH and OUTSIDE; LEAVING; BAD TAG; DUPLICATE TAG (R160). -/
def State.queuedRefusal (tag : Octet) (s : State) : Option CommitResult :=
  match s.station with
  | .halted => some .halted
  | .watch => some .notInStep
  | .outside => some .notInStep
  | .joining => if s.leaveQueued then some .leaving else s.tagRefusal tag
  | .inStep => if s.leaveQueued then some .leaving else s.tagRefusal tag
  | .diverged => if s.leaveQueued then some .leaving else s.tagRefusal tag

/-- Place the request at the tail unless the queue holds 8: QUEUE FULL (R12 step 8). `record` is the change of the local
record that goes with it. -/
def State.queueUnlessFull (body : RequestBody) (tag : Octet) (record : State → State) (s : State) : State :=
  if s.queueFull then s.refuse .queueFull else (record s).acceptQueued body tag

/-! ## Unknown kind, JOIN, LEAVE -/

/-- REQUEST A holds no request kind's code: UNKNOWN KIND, or HALTED in HALTED (R158). -/
def State.commitUnknown (s : State) : State :=
  if s.station = .halted then s.refuse .halted else s.refuse .unknownKind

/-- A commit of JOIN (R161). -/
def State.commitJoin (tag : Octet) (s : State) : State :=
  match s.station with
  | .halted => s.refuse .halted
  | .joining => s.refuse .alreadyMember
  | .inStep => s.refuse .alreadyMember
  | .diverged => s.refuse .alreadyMember
  | .watch | .outside =>
    match s.tagRefusal tag with
    | some r => s.refuse r
    | none =>
      if s.hp.queue.any (fun r => r.body == .join) then s.refuse .already else s.acceptQueued .join tag

/-- In JOINING and DIVERGED a LEAVE removes every queued request, oldest first, each answered CANCELLED (R162). -/
def State.cancelAll (s : State) : State := s.hp.queue.foldl (fun t r => t.cancelRequest r) s

/-- A commit of LEAVE (R162). -/
def State.commitLeave (tag : Octet) (s : State) : State :=
  match s.queuedRefusal tag with
  | some r => s.refuse r
  | none =>
    if s.station = .inStep then s.queueUnlessFull .leave tag id
    else s.cancelAll.acceptQueued .leave tag

/-! ## Locks -/

/-- A commit of CLAIM or TRY CLAIM (R12). -/
def State.commitClaimOf (body : LockNo → RequestBody) (tag : Octet) (s : State) : State :=
  match s.queuedRefusal tag with
  | some r => s.refuse r
  | none =>
    match s.lockArgument with
    | none => s.refuse .range
    | some l =>
      let c := s.claim l
      if c.phase ≠ .none then s.refuse .already
      else s.queueUnlessFull (body l) tag (State.setClaim l { c with phase := .claimQueued, tag := tag })

/-- A commit of RELEASE (R13). -/
def State.commitRelease (tag : Octet) (s : State) : State :=
  match s.queuedRefusal tag with
  | some r => s.refuse r
  | none =>
    match s.lockArgument with
    | none => s.refuse .range
    | some l =>
      let c := s.claim l
      if c.phase ≠ .held then s.refuse .notHolder
      else s.queueUnlessFull (.release l) tag (State.setClaim l { c with phase := .releaseQueued })

/-- The claim request of R14: the one that the lock's claim record follows, which R11 names by the claim tag. Another claim
request for the lock, which the record no longer follows, is not it (DEDUCED, log 28). -/
def State.claimRequest (l : LockNo) (s : State) : Option Request :=
  s.hp.queue.find? (fun r => (r.body == .claim l || r.body == .tryClaim l) && r.tag == (s.claim l).tag)

/-- Whether a request is in the queue and in attempt (R118). -/
def requestAttempted (r : Option Request) : Bool :=
  match r with
  | some r => r.inAttempt
  | none => false

/-- Remove a queued request, where there is one. -/
def State.removeFound (r : Option Request) (s : State) : State :=
  match r with
  | some r => s.removeRequest r.tag
  | none => s

/-- A local withdrawal (R14): the claim request leaves the queue, the record becomes NONE, WITHDRAWN carries the claim's
tag, and no frame is sent. -/
def State.withdrawLocally (l : LockNo) (s : State) : State :=
  let c := s.claim l
  (((s.removeFound (s.claimRequest l)).setClaim l c.ended).indicate (.withdrawn c.tag l)).acceptCounted

/-- A commit of WITHDRAW (R14). -/
def State.commitWithdraw (tag : Octet) (s : State) : State :=
  match s.queuedRefusal tag with
  | some r => s.refuse r
  | none =>
    match s.lockArgument with
    | none => s.refuse .range
    | some l =>
      let c := s.claim l
      let more : ClaimRecord := { c with withdrawals := c.withdrawals + 1 }
      match c.phase with
      | .none => s.refuse .notWaiting
      | .held => s.refuse .notWaiting
      | .releaseQueued => s.refuse .notWaiting
      | .claimQueued =>
        if requestAttempted (s.claimRequest l) then s.queueUnlessFull (.withdraw l) tag (State.setClaim l more)
        else s.withdrawLocally l
      | .waiting | .withdrawQueued =>
        s.queueUnlessFull (.withdraw l) tag (State.setClaim l { more with phase := .withdrawQueued })

/-! ## Barriers -/

/-- A commit of ARRIVE (R32). -/
def State.commitArrive (tag : Octet) (s : State) : State :=
  match s.queuedRefusal tag with
  | some r => s.refuse r
  | none =>
    match s.barrierArgument, s.partyArgument with
    | some b, some count =>
      if (s.arrival b).phase ≠ .none then s.refuse .already
      else s.queueUnlessFull (.arrive b count) tag (State.setArrival b ⟨.arriveQueued, tag, none⟩)
    | _, _ => s.refuse .range

/-- The ARRIVE request for a barrier in the request queue: there is at most one (R31, Table 2-1). -/
def State.arriveRequest (b : BarrierNo) (s : State) : Option Request :=
  s.hp.queue.find? (fun r =>
    match r.body with
    | .arrive b' _ => b' == b
    | _ => false)

/-- A local abandon (R33): the ARRIVE leaves the queue, the record becomes NONE, ABANDONED carries the arrival tag,
generation 0 and the marker LOCAL, and no frame is sent. -/
def State.abandonLocally (b : BarrierNo) (s : State) : State :=
  let a := s.arrival b
  (((s.removeFound (s.arriveRequest b)).setArrival b noArrival).indicate
    (.abandoned a.tag b 0 .localOnly)).acceptCounted

/-- A commit of ABANDON (R33). -/
def State.commitAbandon (tag : Octet) (s : State) : State :=
  match s.queuedRefusal tag with
  | some r => s.refuse r
  | none =>
    match s.barrierArgument with
    | none => s.refuse .range
    | some b =>
      let a := s.arrival b
      match a.phase with
      | .none => s.refuse .notArrived
      | .abandonQueued => s.refuse .notArrived
      | .arriveQueued =>
        if requestAttempted (s.arriveRequest b) then
          s.queueUnlessFull (.abandon b) tag (State.setArrival b { a with phase := .abandonQueued, generation := none })
        else s.abandonLocally b
      | .arrived => s.queueUnlessFull (.abandon b) tag (State.setArrival b { a with phase := .abandonQueued })

/-! ## PUBLISH, POST, CANCEL -/

/-- A commit of PUBLISH (R41). -/
def State.commitPublish (tag : Octet) (s : State) : State :=
  match s.queuedRefusal tag with
  | some r => s.refuse r
  | none => s.queueUnlessFull (.publish s.publishArgument) tag id

/-- A commit of POST (R41): RANGE where the target is above 15, in the place R32 gives RANGE (log 18). -/
def State.commitPost (tag : Octet) (s : State) : State :=
  match s.queuedRefusal tag with
  | some r => s.refuse r
  | none =>
    match s.stationArgument with
    | none => s.refuse .range
    | some t => s.queueUnlessFull (.post t s.hp.requestC) tag id

/-- Set the cancel mark on the request with a tag (R163). -/
def State.setCancelMark (tag : Octet) (s : State) : State :=
  s.onHp (fun h => { h with queue := h.queue.map (fun r => if r.tag = tag then { r with cancelMark := true } else r) })

/-- A commit of CANCEL (R163); the named tag stands in REQUEST B. -/
def State.commitCancel (s : State) : State :=
  let named := s.hp.requestB
  if s.station = .halted then s.refuse .halted
  else if s.station = .watch then s.refuse .notInStep
  else if named = 0 then s.refuse .badTag
  else
    match s.hp.queue.find? (fun r => r.tag == named) with
    | none => s.refuse .unknownTag
    | some r =>
      if r.inAttempt then
        if r.cancelMark then s.refuse .already
        else (s.setCancelMark named).answer .accepted 0x02 (octetOf s.hp.queue.length) 0 0
      else
        let t := s.cancelRequest r
        t.answer .accepted 0x01 (octetOf t.hp.queue.length) 0 0

/-! ## Watches -/

/-- The checks of the local kinds that are taken in IN STEP only: HALTED, then NOT IN STEP (R43, R44, R169). -/
def State.localRefusal (s : State) : Option CommitResult :=
  match s.station with
  | .halted => some .halted
  | .inStep => none
  | .watch => some .notInStep
  | .outside => some .notInStep
  | .joining => some .notInStep
  | .diverged => some .notInStep

/-- An armed slot holds this tag (R43 step 4). -/
def State.tagArmed (tag : Octet) (s : State) : Bool :=
  allSlots.any (fun i => (s.watch i).armed && (s.watch i).tag == tag)

/-- A commit of ARM WATCH (R43). -/
def State.commitArmWatch (tag : Octet) (s : State) : State :=
  match s.localRefusal with
  | some r => s.refuse r
  | none =>
    if tag = 0 then s.refuse .badTag
    else if s.tagQueued tag ∨ s.tagArmed tag then s.refuse .duplicateTag
    else
      let o := s.hp.requestB
      match armCondition o with
      | none => s.refuse .range
      | some condition =>
        let i := armSlot o
        let k := armStation o
        let v := s.word k
        if (s.watch i).armed then s.refuse .already
        else
          let value := if condition = .anyChange then v else s.matchArgument
          let w : WatchSlot := ⟨true, tag, k, condition, value⟩
          let t := (s.setWatch i w).answer .accepted (octetOfFin i) (octetOfFin k) (highOctet v) (lowOctet v)
          if w.holds v then t.matchWatch i else t

/-- A commit of DISARM WATCH (R44). -/
def State.commitDisarmWatch (s : State) : State :=
  match s.localRefusal with
  | some r => s.refuse r
  | none =>
    match s.slotArgument with
    | none => s.refuse .range
    | some i =>
      let w := s.watch i
      if w.armed then
        (s.setWatch i { w with armed := false, tag := 0 }).answer .accepted (octetOfFin i) 0x01 0 0
      else s.answer .accepted (octetOfFin i) 0x00 0 0

/-! ## Queries -/

/-- A commit of QUERY LOCK (R169). -/
def State.commitQueryLock (s : State) : State :=
  match s.localRefusal with
  | some r => s.refuse r
  | none =>
    match s.lockArgument with
    | none => s.refuse .range
    | some l =>
      let r := s.lock l
      s.answer .accepted (holderOctet r.holder) (octetOf r.waiters.length)
        (octetOf (queuePosition r.waiters s.me)) (s.claim l).phase.code

/-- A commit of QUERY BARRIER (R169, R170). -/
def State.commitQueryBarrier (s : State) : State :=
  match s.localRefusal with
  | some r => s.refuse r
  | none =>
    match s.barrierArgument with
    | none => s.refuse .range
    | some b =>
      let r := s.barrier b
      s.answer .accepted r.generation (octetOf r.partyCount) (octetOf (stationCount r.arrived))
        (s.arrival b).phase.code

/-- The source as an octet; a roster with no MEMBER, which R171 says no query meets, gives a free value (log 17). -/
def State.sourceOctet (s : State) : Octet :=
  match rosterSource s.tu.roster with
  | some t => octetOfFin t
  | none => Config.sourceOctetWhenNone

/-- A commit of QUERY ROSTER (R169, R171). -/
def State.commitQueryRoster (s : State) : State :=
  match s.localRefusal with
  | some r => s.refuse r
  | none =>
    match s.stationArgument with
    | none => s.refuse .range
    | some t =>
      let w := partSetWord (s.entry t).installed
      s.answer .accepted (s.standing t).code (highOctet w) (lowOctet w) s.sourceOctet

/-- A commit of QUERY WORD (R169, R171). -/
def State.commitQueryWord (s : State) : State :=
  match s.localRefusal with
  | some r => s.refuse r
  | none =>
    match s.stationArgument with
    | none => s.refuse .range
    | some t => s.answer .accepted (s.standing t).code 0x00 (highOctet (s.word t)) (lowOctet (s.word t))

/-! ## The write to COMMIT -/

/-- A write to COMMIT acts by the code in REQUEST A (R158). -/
def State.commitWrite (tag : Octet) (s : State) : State :=
  match RequestKind.ofCode s.hp.requestA with
  | none => s.commitUnknown
  | some .join => s.commitJoin tag
  | some .leave => s.commitLeave tag
  | some .claim => s.commitClaimOf .claim tag
  | some .tryClaim => s.commitClaimOf .tryClaim tag
  | some .release => s.commitRelease tag
  | some .withdraw => s.commitWithdraw tag
  | some .arrive => s.commitArrive tag
  | some .abandon => s.commitAbandon tag
  | some .publish => s.commitPublish tag
  | some .post => s.commitPost tag
  | some .cancel => s.commitCancel
  | some .armWatch => s.commitArmWatch tag
  | some .disarmWatch => s.commitDisarmWatch
  | some .queryLock => s.commitQueryLock
  | some .queryBarrier => s.commitQueryBarrier
  | some .queryRoster => s.commitQueryRoster
  | some .queryWord => s.commitQueryWord

/-- A commit command of a row: the row's own effect where REQUEST A holds the row's kind. The row of an unknown kind has
none. Where REQUEST A holds anything else, the same write to COMMIT is another row's event, and acts as that (R158;
log 6). -/
def State.commitAs (kind : Option RequestKind) (effect : State → State) (tag : Octet) (s : State) : State :=
  s.unlessReset (fun t => if RequestKind.ofCode t.hp.requestA = kind then effect t else t.commitWrite tag)

/-- COMMIT_UNKNOWN_KIND (R158). -/
def execCommitUnknownKind (tag : Octet) (s : State) : Out := .next (s.commitAs none State.commitUnknown tag)

/-- COMMIT_JOIN (R161). -/
def execCommitJoin (tag : Octet) (s : State) : Out := .next (s.commitAs (some .join) (State.commitJoin tag) tag)

/-- COMMIT_LEAVE (R162). -/
def execCommitLeave (tag : Octet) (s : State) : Out := .next (s.commitAs (some .leave) (State.commitLeave tag) tag)

/-- COMMIT_CLAIM (R12). -/
def execCommitClaim (tag : Octet) (s : State) : Out :=
  .next (s.commitAs (some .claim) (State.commitClaimOf .claim tag) tag)

/-- COMMIT_TRY_CLAIM (R12). -/
def execCommitTryClaim (tag : Octet) (s : State) : Out :=
  .next (s.commitAs (some .tryClaim) (State.commitClaimOf .tryClaim tag) tag)

/-- COMMIT_RELEASE (R13). -/
def execCommitRelease (tag : Octet) (s : State) : Out :=
  .next (s.commitAs (some .release) (State.commitRelease tag) tag)

/-- COMMIT_WITHDRAW (R14). -/
def execCommitWithdraw (tag : Octet) (s : State) : Out :=
  .next (s.commitAs (some .withdraw) (State.commitWithdraw tag) tag)

/-- COMMIT_ARRIVE (R32). -/
def execCommitArrive (tag : Octet) (s : State) : Out := .next (s.commitAs (some .arrive) (State.commitArrive tag) tag)

/-- COMMIT_ABANDON (R33). -/
def execCommitAbandon (tag : Octet) (s : State) : Out :=
  .next (s.commitAs (some .abandon) (State.commitAbandon tag) tag)

/-- COMMIT_PUBLISH (R41). -/
def execCommitPublish (tag : Octet) (s : State) : Out :=
  .next (s.commitAs (some .publish) (State.commitPublish tag) tag)

/-- COMMIT_POST (R41). -/
def execCommitPost (tag : Octet) (s : State) : Out := .next (s.commitAs (some .post) (State.commitPost tag) tag)

/-- COMMIT_CANCEL (R163): the tag written has no use. -/
def execCommitCancel (tag : Octet) (s : State) : Out := .next (s.commitAs (some .cancel) State.commitCancel tag)

/-- ARM_WATCH (R43). -/
def execArmWatch (tag : Octet) (s : State) : Out := .next (s.commitAs (some .armWatch) (State.commitArmWatch tag) tag)

/-- DISARM_WATCH (R44): the tag written has no use. -/
def execDisarmWatch (tag : Octet) (s : State) : Out :=
  .next (s.commitAs (some .disarmWatch) State.commitDisarmWatch tag)

/-- QUERY_LOCK (R169). -/
def execQueryLock (tag : Octet) (s : State) : Out := .next (s.commitAs (some .queryLock) State.commitQueryLock tag)

/-- QUERY_BARRIER (R169, R170). -/
def execQueryBarrier (tag : Octet) (s : State) : Out :=
  .next (s.commitAs (some .queryBarrier) State.commitQueryBarrier tag)

/-- QUERY_ROSTER (R169, R171). -/
def execQueryRoster (tag : Octet) (s : State) : Out :=
  .next (s.commitAs (some .queryRoster) State.commitQueryRoster tag)

/-- QUERY_WORD (R169, R171). -/
def execQueryWord (tag : Octet) (s : State) : Out := .next (s.commitAs (some .queryWord) State.commitQueryWord tag)

end Sys2Proof.Machine
end

