-- ==== Sys2Proof/Machine/Line.lean ====
section
/-!
DEFINITION. The events of the cluster line (chapters 4 to 7): CLEAR_GAP, CONTENTION_POINT, LOST_ARBITRATION, COLLISION,
DRIVER_FAULT, STALL, LINE_HELD_BEGIN, LINE_HELD_END, FRAME_END, SLOT_WINDOW_END, START_BIT, DOMINANT_BEFORE_OPEN. An event
that the Line Engine's state does not admit changes nothing (log 8). No row tells that the head was won: an event that
comes after the head first enters SENDING, and so does a step on an empty queue (log 11).
-/

namespace Sys2Proof.Machine

/-! ## The head won -/

/-- At the stop bit of its head a contender that has read it back as sent enters SENDING (R104, Table 6-3). -/
def State.winHead (s : State) : State :=
  if s.le.line = .contending then s.onLe (fun e => { e with line := .sending }) else s

/-- What a step on an empty queue does: the head of an attempt ends, won (R104; DESIGN CHOICE, log 11). Nothing else
comes about without a command. -/
def State.passHead (s : State) : State := s.unlessReset State.winHead

/-! ## Gaps -/

/-- The gap count reaches 24 T while IDLE: the yield flag clears (R99, R110). -/
def State.reachClearGap (s : State) : State :=
  if s.le.line = .idle then
    s.onLe (fun e => { e with gapCount := max e.gapCount Config.clearGap, yieldFlag := false })
  else s

/-- CLEAR_GAP (R110). -/
def execClearGap (s : State) : Out := .next (s.unlessReset State.reachClearGap)

/-- The gap count reaches a multiple of 12 T while IDLE (R99); a station that may begin chooses, builds and begins an
attempt (R103, R116). -/
def State.reachContention (s : State) : State :=
  if s.le.line = .idle then
    let t := s.onLe (fun e => { e with gapCount := max e.gapCount Config.idleGap })
    if t.mayBegin then t.offer (t.hp.queue.length + 1) else t
  else s

/-- CONTENTION_POINT (R103, R116). -/
def execContentionPoint (s : State) : Out := .next (s.unlessReset State.reachContention)

/-- The line is open: the gap count has reached 12 T (R99). -/
def State.lineOpen (s : State) : Bool := decide (Config.idleGap ≤ s.le.gapCount)

/-- A dominant level ends the stretch of recessive line: the gap count goes back to 0 (R99, R110), and the slot of a frame
that a port restart cut off is past (log 27). -/
def State.endGap (s : State) : State :=
  (s.onLe (fun e => { e with gapCount := 0 })).onAu (fun a => { a with heard := none })

/-- A dominant level before the line is open is discarded; the gap count starts again at 0 at its end (R99). At 12 T
the line is open, and the level is no longer this event (log 8). -/
def State.discardDominant (s : State) : State := if s.le.line = .idle ∧ !s.lineOpen then s.endGap else s

/-- DOMINANT_BEFORE_OPEN (R99). -/
def execDominantBeforeOpen (s : State) : Out := .next (s.unlessReset State.discardDominant)

/-! ## The start of a frame -/

/-- A start bit sets the gap count of an IDLE Line Engine back to 0 (R110). While the line is open it is the head's, and
the Line Engine enters RECEIVING (R100); before that it is a dominant level that is no frame, and is discarded (R99). A
HALTED station's Line Engine goes no further than IDLE (R98). -/
def State.openFrame (s : State) : State :=
  if s.le.line = .idle then
    if s.lineOpen ∧ s.station ≠ .halted then
      (s.endGap.onLe (fun e => { e with line := .receiving, rxBits := [] })).onAu (fun a => { a with partialFrame := [] })
    else s.endGap
  else s

/-- START_BIT (R99, R100). -/
def execStartBit (s : State) : Out := .next (s.unlessReset State.openFrame)

/-! ## Arbitration, collision, driver fault -/

/-- The head of the frame in attempt. -/
def State.attemptHead (s : State) : Option Octet := s.ss.attempt.map (·.frame.head)

/-- The data bits of a head up to and with the first in which it differs from this station's own head: what a contender
has read when it loses (R104). -/
def bitsUntilLoss : List Bool → List Bool → List Bool
  | w :: ws, o :: os => if w = o then w :: bitsUntilLoss ws os else [w]
  | _, _ => []

/-- The data bits of an octet, most significant first. -/
def dataBits (o : Octet) : List Bool := ((characterBits o).drop 1).take 8

/-- A contender loses arbitration to a lower head (R67, R104): it releases the line, keeps the head bits read so far,
receives the winning frame, and its item stays pending (the operand: log 12). -/
def State.loseArbitration (winner : Octet) (s : State) : State :=
  match s.attemptHead with
  | some own =>
    if s.le.line = .contending ∧ winner.toNat < own.toNat then
      s.loseAttempt.onLe (fun e =>
        { e with line := .receiving, rxBits := bitsUntilLoss (dataBits winner) (dataBits own) })
    else s
  | none => s

/-- LOST_ARBITRATION (R104). -/
def execLostArbitration (winner : Octet) (s : State) : Out := .next (s.unlessReset (State.loseArbitration winner))

/-- The bits of a frame on the line, recessive as true. -/
def Frame.bits (f : Frame) : List Bool := f.octets.flatMap characterBits

/-- What the Acceptance Unit holds of the own frame at a collision: the characters complete before the collided bit, and
the collided character itself where the bit is its stop bit, read dominant (R97, R105). -/
def collidedCharacters (octets : List Octet) (position : Nat) : List Character :=
  let whole := cleanCharacters (octets.take (position / 10))
  if position % 10 = 9 then whole ++ ((octets.drop (position / 10)).take 1).map (fun o => ⟨o, true⟩) else whole

/-- What the receive character buffer holds at a collision: the data bits of the character up to and with the collided
one, which is read dominant (R97, R105). -/
def collidedBits (octets : List Octet) (position : Nat) : List Bool :=
  if position % 10 = 9 then []
  else
    match (octets.drop (position / 10)).head? with
    | some o => (dataBits o).take (position % 10 - 1) ++ [false]
    | none => []

/-- A collision (R105): the bit, from the stop bit of the head on, was sent recessive. The station releases the line, the
attempt ends truncated, and the Line Engine carries on as a receiver (the operand: log 12; the head is won: log 11). -/
def State.collide (position : Nat) (s : State) : State :=
  let t := s.winHead
  match t.ss.attempt with
  | some a =>
    if t.le.line = .sending ∧ 9 ≤ position ∧ a.frame.bits[position]? = some true then
      (t.failAttempt.onLe (fun e =>
        { e with line := .receiving, rxBits := collidedBits a.frame.octets position })).onAu
        (fun x => { x with partialFrame := collidedCharacters a.frame.octets position, heard := none })
    else s
  | none => s

/-- COLLISION (R105). -/
def execCollision (position : Nat) (s : State) : Out := .next (s.unlessReset (State.collide position))

/-- A station that drives the line dominant and reads it recessive enters HALTED (R106, R136). -/
def State.faultDriver (s : State) : State :=
  if s.driver ≠ .released then s.enterHalted .driverFault else s

/-- DRIVER_FAULT (R106). -/
def execDriverFault (s : State) : Out := .next (s.unlessReset State.faultDriver)

/-! ## Stall and held line -/

/-- The partial frame is dropped and the Line Engine enters IDLE with its gap count at 0 (R81, R102). -/
def State.stallFrame (s : State) : State := if s.le.line = .receiving then s.endSlot else s

/-- STALL (R102). -/
def execStall (s : State) : Out := .next (s.unlessReset State.stallFrame)

/-- The frame in the slot is this station's own (R88). -/
def State.ownInSlot (s : State) : Bool :=
  match s.au.heard with
  | some h => h.own
  | none => false

/-- The truncation at the beginning of a line-held condition (R112): the attempt of a station that is SENDING, or in SLOT
as the frame's sender, fails; a frame in progress is dropped. -/
def State.truncateHeld (s : State) : State :=
  let t := if s.le.line = .sending ∨ (s.le.line = .slot ∧ s.ownInSlot) then s.failAttempt else s
  t.onAu (fun a => { a with partialFrame := [], heard := none })

/-- A dominant run reaches 20 T (R112, R113): the truncation, then one LINE HELD (Table 6-3; log 13). A run of 20 T outlasts
the 10 T of a head, so a contender is SENDING by then (log 11). -/
def State.beginHeld (s : State) : State :=
  if s.le.line = .held then s
  else (s.winHead.truncateHeld.onLe (fun e => { e with line := .held, rxBits := [] })).indicate .lineHeld

/-- LINE_HELD_BEGIN (R112, R113). -/
def execLineHeldBegin (s : State) : Out := .next (s.unlessReset State.beginHeld)

/-- The line has been recessive for 0.5 T: IDLE with gap count 0 (R112). -/
def State.endHeld (s : State) : State :=
  if s.le.line = .held then s.onLe (fun e => { e with line := .idle, gapCount := 0 }) else s

/-- LINE_HELD_END (R112). -/
def execLineHeldEnd (s : State) : Out := .next (s.unlessReset State.endHeld)

/-! ## The end of a frame and of its slot -/

/-- The end of the station's own frame (R88, R100): the Acceptance Unit holds it as built (log 23) and decides no objection
(R77). -/
def State.endOwnFrame (a : Attempt) (s : State) : State :=
  (s.onLe (fun e => { e with line := .slot, rxBits := [] })).onAu
    (fun x => { x with partialFrame := cleanCharacters a.frame.octets, heard := some ⟨.good a.frame, .none, true⟩ })

/-- The end of a received frame (R78, R100): it is classed, and the objection is decided from the classification, the
station state and the order number at this moment. -/
def State.endHeardFrame (chars : List Character) (s : State) : State :=
  let c := classify chars
  (s.onLe (fun e => { e with line := .slot, rxBits := [] })).onAu
    (fun x => { x with partialFrame := chars, heard := some ⟨c, s.decideObjection c, false⟩ })

/-- The characters of a frame have been read (R68, R100, R101). Too few for the frame's length leave the frame in
progress (log 10). A contender has won its head by the end of its frame (log 11). -/
def State.finishFrame (chars : List Character) (s : State) : State :=
  if s.winHead.le.line = .sending then
    match s.ss.attempt with
    | some a => s.winHead.endOwnFrame a
    | none => s
  else if s.le.line = .receiving then
    match completeFrame chars with
    | some whole => s.endHeardFrame whole
    | none => s.onAu (fun x => { x with partialFrame := chars })
  else s

/-- FRAME_END (R78). -/
def execFrameEnd (chars : List Character) (s : State) : Out := .next (s.unlessReset (State.finishFrame chars))

/-- The slot outcome of a frame is taken (R80, R81, R87, R88). -/
def State.takeOutcome (h : HeardFrame) (outcome : SlotOutcome) (s : State) : State :=
  match outcome with
  | .accepted => s.acceptFrame h.own h.classification.hand
  | .rejected => if h.own then s.failAttempt else s
  | .ordered =>
    match h.own, h.classification.hand with
    | true, some f => s.orderAttempt f
    | _, _ => s

/-- The slot window of a frame is running: in SLOT; or at a WATCH station whose port restart came in it, while no line event
has followed the restart (R132; log 27). -/
def State.slotRuns (s : State) : Bool :=
  s.le.line == .slot || (s.le.line == .idle && s.station == .watch && s.le.gapCount == 0 && s.au.heard.isSome)

/-- The end of the slot window (R80, R109): a station that decided an objection and read no character has found a driver
fault (R106); otherwise the report gives the slot outcome. -/
def State.closeSlot (seen : SlotSeen) (s : State) : State :=
  if s.slotRuns then
    match s.au.heard with
    | some h =>
      if h.objection ≠ .none ∧ seen = .nothing then s.enterHalted .driverFault
      else s.endSlot.takeOutcome h (slotOutcome (slotReport seen))
    | none => s.endSlot
  else s

/-- SLOT_WINDOW_END (R80). -/
def execSlotWindowEnd (seen : SlotSeen) (s : State) : Out := .next (s.unlessReset (State.closeSlot seen))

end Sys2Proof.Machine
end

