-- ==== Sys2Proof/Machine/Timers.lean ====
section
/-!
DEFINITION. The timer expiries (chapters 3, 7 and 8): QUIET_WATCH_EXPIRY, PRESENCE_TIMER_EXPIRY, SILENCE_TIMER_EXPIRY,
TRANSFER_TIMER_EXPIRY. A timer that is not running does not expire, and its command changes nothing (R142; log 8).
-/

namespace Sys2Proof.Machine

/-- Whether a timer runs. -/
def Timer.runs : Timer → Bool
  | .running _ => true
  | .cleared => false
  | .expired => false

/-- The quiet watch ends (R134): WATCH to OUTSIDE, no STATE, nothing discarded. -/
def State.endQuietWatch (s : State) : State :=
  if s.station = .watch ∧ s.mc.quietWatch.runs then
    s.onMc (fun m => { m with state := .outside, quietWatch := .cleared })
  else s

/-- QUIET_WATCH_EXPIRY (R134). -/
def execQuietWatchExpiry (s : State) : Out := .next (s.unlessReset State.endQuietWatch)

/-- The presence timer expires and stops; the PRESENCE duty is then pending (R123). -/
def State.expirePresence (s : State) : State :=
  if s.mc.presence.runs then s.onMc (fun m => { m with presence := .expired }) else s

/-- PRESENCE_TIMER_EXPIRY (R123). -/
def execPresenceTimerExpiry (s : State) : Out := .next (s.unlessReset State.expirePresence)

/-- The silence timer for a peer expires and stops; the EVICT of the peer is then pending (R125). -/
def State.expireSilence (peer : Station) (s : State) : State :=
  if s.mc.silence[peer].runs then s.setSilence peer .expired else s

/-- SILENCE_TIMER_EXPIRY (R125). -/
def execSilenceTimerExpiry (peer : Station) (s : State) : Out := .next (s.unlessReset (State.expireSilence peer))

/-- The transfer timer expires at a JOINING station: taken as the loss of the cluster (R60). -/
def State.expireTransfer (s : State) : State :=
  if s.station = .joining ∧ s.mc.transfer.runs then s.loseCluster else s

/-- TRANSFER_TIMER_EXPIRY (R60). -/
def execTransferTimerExpiry (s : State) : Out := .next (s.unlessReset State.expireTransfer)

end Sys2Proof.Machine
end

