-- ==== Sys2Proof/Machine/Dispatch.lean ====
section
/-!
DEFINITION. One arm for each command.
-/

namespace Sys2Proof.Machine

def exec (i : Instr) (s : State) : Host.Outcome State Fault Refusal :=
  match i with
  | .powerOnReset station bitRate => Sys2Proof.Machine.execPowerOnReset station bitRate s
  | .restart octet => Sys2Proof.Machine.execRestart octet s
  | .clearOverrun octet => Sys2Proof.Machine.execClearOverrun octet s
  | .rewind octet => Sys2Proof.Machine.execRewind octet s
  | .irqEnable octet => Sys2Proof.Machine.execIrqEnable octet s
  | .indicationWindow => Sys2Proof.Machine.execIndicationWindow s
  | .registerWrite offset octet => Sys2Proof.Machine.execRegisterWrite offset octet s
  | .commitUnknownKind tag => Sys2Proof.Machine.execCommitUnknownKind tag s
  | .commitJoin tag => Sys2Proof.Machine.execCommitJoin tag s
  | .commitLeave tag => Sys2Proof.Machine.execCommitLeave tag s
  | .commitClaim tag => Sys2Proof.Machine.execCommitClaim tag s
  | .commitTryClaim tag => Sys2Proof.Machine.execCommitTryClaim tag s
  | .commitRelease tag => Sys2Proof.Machine.execCommitRelease tag s
  | .commitWithdraw tag => Sys2Proof.Machine.execCommitWithdraw tag s
  | .commitArrive tag => Sys2Proof.Machine.execCommitArrive tag s
  | .commitAbandon tag => Sys2Proof.Machine.execCommitAbandon tag s
  | .commitPublish tag => Sys2Proof.Machine.execCommitPublish tag s
  | .commitPost tag => Sys2Proof.Machine.execCommitPost tag s
  | .commitCancel tag => Sys2Proof.Machine.execCommitCancel tag s
  | .armWatch tag => Sys2Proof.Machine.execArmWatch tag s
  | .disarmWatch tag => Sys2Proof.Machine.execDisarmWatch tag s
  | .queryLock tag => Sys2Proof.Machine.execQueryLock tag s
  | .queryBarrier tag => Sys2Proof.Machine.execQueryBarrier tag s
  | .queryRoster tag => Sys2Proof.Machine.execQueryRoster tag s
  | .queryWord tag => Sys2Proof.Machine.execQueryWord tag s
  | .quietWatchExpiry => Sys2Proof.Machine.execQuietWatchExpiry s
  | .presenceTimerExpiry => Sys2Proof.Machine.execPresenceTimerExpiry s
  | .silenceTimerExpiry peer => Sys2Proof.Machine.execSilenceTimerExpiry peer s
  | .transferTimerExpiry => Sys2Proof.Machine.execTransferTimerExpiry s
  | .clearGap => Sys2Proof.Machine.execClearGap s
  | .contentionPoint => Sys2Proof.Machine.execContentionPoint s
  | .lostArbitration winningHead => Sys2Proof.Machine.execLostArbitration winningHead s
  | .collision bitPosition => Sys2Proof.Machine.execCollision bitPosition s
  | .driverFault => Sys2Proof.Machine.execDriverFault s
  | .stall => Sys2Proof.Machine.execStall s
  | .lineHeldBegin => Sys2Proof.Machine.execLineHeldBegin s
  | .lineHeldEnd => Sys2Proof.Machine.execLineHeldEnd s
  | .frameEnd characters => Sys2Proof.Machine.execFrameEnd characters s
  | .slotWindowEnd seen => Sys2Proof.Machine.execSlotWindowEnd seen s
  | .startBit => Sys2Proof.Machine.execStartBit s
  | .dominantBeforeOpen => Sys2Proof.Machine.execDominantBeforeOpen s
  | .resetnAsserted => Sys2Proof.Machine.execResetnAsserted s

end Sys2Proof.Machine
end

