-- ==== Sys2Proof/Safety.lean ====
section
/-!
DEFINITION. What a run of the C16 keeps, in the terms the obligations use: the invariants of the queues, of the replica,
of the line and its attempt, and of the station's life; the checks of a commit as an ordered list; the transitions of the
station state; and what an accepted frame leaves beside its effect on the table.
-/

namespace Sys2Proof.Machine

/-! ## The queues (R159, R165, R166) -/

/-- At most 16 records, and the read position at kind whenever the queue is empty (R165, R166). -/
def State.indicationsBounded (s : State) : Bool :=
  decide (s.hp.indications.length ≤ 16) && (!s.hp.indications.isEmpty || s.hp.readPos == 0)

/-- The states in which the queue can hold a JOIN and nothing else (R160, R161). -/
def StationState.joinsOnly : StationState → Bool
  | .watch => true
  | .outside => true
  | .joining => false
  | .inStep => false
  | .diverged => false
  | .halted => false

/-- The request queue (R159): at most 8 requests, none with tag 0, no two with one tag, none behind the head in attempt;
in WATCH and OUTSIDE at most one request, a JOIN (R161). -/
def State.requestsLawful (s : State) : Bool :=
  decide (s.hp.queue.length ≤ 8) && decide ((s.hp.queue.map (·.tag)).Nodup) &&
    s.hp.queue.all (fun r => r.tag != 0) && (s.hp.queue.drop 1).all (fun r => !r.inAttempt) &&
    (!s.station.joinsOnly || (decide (s.hp.queue.length ≤ 1) && s.hp.queue.all (fun r => r.body == .join)))

/-- A JOIN is in the request queue in WATCH and OUTSIDE only (R160, R161). -/
def State.noJoinInside (s : State) : Bool := s.station.joinsOnly || s.hp.queue.all (fun r => r.body != .join)

/-! ## The replica (R1, R23, R46) -/

/-- The laws of the records a part carries (R75). -/
def PartContent.lawful : PartContent → Bool
  | .roster es => es.toList.all RosterEntry.lawful
  | .locks _ ls => ls.toList.all LockRecord.lawful
  | .barriers _ bs => bs.toList.all BarrierRecord.lawful
  | .words _ _ => true

/-- The body fields of a frame are in their ranges (R66): what the types leave open is the party count and the content of
a SNAPSHOT. -/
def FrameBody.lawful : FrameBody → Bool
  | .arrive _ count => decide (2 ≤ count) && decide (count ≤ 16)
  | .snapshot content => content.lawful
  | .evict _ => true
  | .leave => true
  | .resync => true
  | .join _ => true
  | .release _ => true
  | .withdraw _ => true
  | .claim _ _ => true
  | .abandon _ _ => true
  | .publish _ => true
  | .post _ _ => true
  | .presence => true

/-- A well-formed frame (R66, R74). -/
def Frame.lawful (f : Frame) : Bool := f.body.lawful

/-- A queued request's arguments are in their ranges (R69: "A request's fields were checked at its commit"). -/
def RequestBody.lawful : RequestBody → Bool
  | .arrive _ count => decide (2 ≤ count) && decide (count ≤ 16)
  | .join => true
  | .leave => true
  | .claim _ => true
  | .tryClaim _ => true
  | .release _ => true
  | .withdraw _ => true
  | .abandon _ => true
  | .publish _ => true
  | .post _ _ => true

/-- Whether a classification holds a frame in its ranges, or none. -/
def Classification.lawful : Classification → Bool
  | .good f => f.lawful
  | .badCheck => true
  | .malformed => true

/-- The replica's lock, barrier and roster records keep their laws (R1, R23, R46). -/
def TableUnit.lawful (u : TableUnit) : Bool :=
  u.locks.toList.all LockRecord.lawful && u.barriers.toList.all BarrierRecord.lawful &&
    u.roster.toList.all RosterEntry.lawful

/-- The replica is lawful, and so is every frame and every request that can still change it. -/
def State.replicaLawful (s : State) : Bool :=
  s.tu.lawful && s.hp.queue.all (fun r => r.body.lawful) && s.ss.attempt.all (fun a => a.frame.lawful) &&
    s.au.heard.all (fun h => h.classification.lawful)

/-! ## The line and the attempt (R77, R88, R98, R114, R118) -/

/-- The station is sending its frame: CONTENDING or SENDING. -/
def LineState.sends : LineState → Bool
  | .contending => true
  | .sending => true
  | .idle => false
  | .receiving => false
  | .slot => false
  | .held => false

/-- The heard frame is this station's own (R88). -/
def HeardFrame.isOwn (h : HeardFrame) (f : Frame) : Bool := h == ⟨.good f, .none, true⟩

/-- The attempt in hand is on the line, or in its slot as this station's own frame (R88, R118). -/
def State.attemptOnLine (s : State) : Bool :=
  match s.ss.attempt with
  | some a =>
    a.frame.sender == s.me &&
      (s.le.line.sends || (s.le.line == .slot && s.au.heard.any (fun h => h.isOwn a.frame)))
  | none => true

/-- An own frame is in the slot only with its attempt in hand, and it draws no objection of this station (R77, R88). -/
def State.ownHeardInHand (s : State) : Bool :=
  s.au.heard.all (fun h => !h.own || s.ss.attempt.any (fun a => h.isOwn a.frame))

/-- A frame is held for its slot in SLOT; in IDLE one can be held after a port restart, drawing no objection and not as an
own frame (log 27); and in no other state. -/
def State.heardInSlot (s : State) : Bool :=
  match s.le.line with
  | .slot => s.au.heard.isSome
  | .idle => s.au.heard.all (fun h => h.objection == .none && !h.own)
  | .contending => s.au.heard.isNone
  | .sending => s.au.heard.isNone
  | .receiving => s.au.heard.isNone
  | .held => s.au.heard.isNone

/-- A frame is held for its slot; a sending Line Engine has an attempt in hand; a WATCH station has decided
no objection (R77); a HALTED Line Engine goes no further than IDLE and HELD (R98). -/
def State.lineConsistent (s : State) : Bool :=
  s.heardInSlot && s.attemptOnLine && s.ownHeardInHand &&
    (!s.le.line.sends || s.ss.attempt.isSome) &&
    (s.station != .watch || s.au.heard.all (fun h => h.objection == .none)) &&
    (s.station != .halted || s.le.line == .idle || s.le.line == .held)

/-- The states in which an attempt of a frame can be in hand (Table 7-2); a LEAVE or PRESENCE also outlives the entry
into OUTSIDE that took its item away (R118). -/
def Attempt.admitted (a : Attempt) (state : StationState) (me : Station) : Bool :=
  match a.frame.body with
  | .join _ => state == .outside
  | .resync => state == .diverged
  | .leave => state == .joining || state == .inStep || state == .diverged || (state == .outside && a.item.isNone)
  | .presence => state == .joining || state == .inStep || (state == .outside && a.item.isNone)
  | .evict t => state == .inStep && t != me
  | .release _ => state == .inStep
  | .withdraw _ => state == .inStep
  | .claim _ _ => state == .inStep
  | .abandon _ _ => state == .inStep
  | .arrive _ _ => state == .inStep
  | .publish _ => state == .inStep
  | .post _ _ => state == .inStep
  | .snapshot _ => state == .inStep

/-- Whether a frame is one that a request builds (Table 4-3). -/
def FrameBody.fromRequest : FrameBody → Bool
  | .evict _ => false
  | .resync => false
  | .snapshot _ => false
  | .presence => false
  | .leave => true
  | .join _ => true
  | .release _ => true
  | .withdraw _ => true
  | .claim _ _ => true
  | .abandon _ _ => true
  | .arrive _ _ => true
  | .publish _ => true
  | .post _ _ => true

/-- Whether a frame is a SNAPSHOT. -/
def FrameBody.isSnapshot : FrameBody → Bool
  | .snapshot _ => true
  | .evict _ => false
  | .leave => false
  | .resync => false
  | .join _ => false
  | .release _ => false
  | .withdraw _ => false
  | .claim _ _ => false
  | .abandon _ _ => false
  | .arrive _ _ => false
  | .publish _ => false
  | .post _ _ => false
  | .presence => false

/-- The frame in attempt is one its item builds (Table 4-3); an attempt whose item was taken away is a LEAVE or a
PRESENCE (R118). -/
def Attempt.itemFits (a : Attempt) : Bool :=
  match a.item with
  | some (.request _) => a.frame.body.fromRequest
  | some (.evict t) => a.frame.body == .evict t
  | some .resync => a.frame.body == .resync
  | some .snapshot =>
    match a.frame.body with
    | .snapshot _ => true
    | _ => false
  | some .presence => a.frame.body == .presence
  | none => a.frame.body == .leave || a.frame.body == .presence

/-- The attempt in hand is one the station state admits, built for its item. -/
def State.attemptAdmitted (s : State) : Bool :=
  s.ss.attempt.all (fun a => a.admitted s.station s.me && a.itemFits)

/-! ## The replica by station state (R47, R59, R144) -/

/-- What the station state says of the replica: outside the cluster it is empty with no part installed (R47); a JOINING
station has no part installed, or has part 0 and an own entry JOINING with its local installed set (R47, R144); an IN STEP
station has every part installed and its own entry is MEMBER (R59); a DIVERGED station has every part installed
(R138). -/
def State.replicaByState (s : State) : Bool :=
  match s.station with
  | .watch => s.tu == .resetValue
  | .outside => s.tu == .resetValue
  | .halted => s.tu == .resetValue
  | .joining =>
    s.tu.installed == 0 ||
      (s.hasInstalled 0 && s.entry s.me == ⟨.joining, s.tu.installed⟩ && s.tu.installed != allPartsSet)
  | .inStep => s.tu.installed == allPartsSet && s.standing s.me == .member
  | .diverged => s.tu.installed == allPartsSet

/-- An IN STEP station keeps no silence timer for itself (R124). -/
def State.ownSilenceCleared (s : State) : Bool := s.mc.silence[s.me] == .cleared

/-! ## The attempt and its item (R114, R118, R120) -/

/-- The item of the attempt is the counted item; a request in attempt is the marked head; nothing is marked otherwise;
the counter stays below the limit between attempts (R114, R118, R120, R121). -/
def State.attemptConsistent (s : State) : Bool :=
  decide (s.ss.counter < 8) &&
    match s.ss.attempt with
    | some ⟨_, some i⟩ =>
      s.ss.counted == some i &&
        match i with
        | .request tag => (s.hp.queue.take 1).any (fun r => r.tag == tag && r.inAttempt)
        | .evict _ => s.hp.queue.all (fun r => !r.inAttempt)
        | .resync => s.hp.queue.all (fun r => !r.inAttempt)
        | .snapshot => s.hp.queue.all (fun r => !r.inAttempt)
        | .presence => s.hp.queue.all (fun r => !r.inAttempt)
    | some ⟨_, none⟩ => s.hp.queue.all (fun r => !r.inAttempt)
    | none => s.hp.queue.all (fun r => !r.inAttempt)

/-- The invariant of the station's life: its queue, its line, its attempt and its replica agree with its state. -/
def State.lifeConsistent (s : State) : Bool :=
  s.requestsLawful && s.noJoinInside && s.lineConsistent && s.attemptConsistent && s.attemptAdmitted &&
    s.replicaByState && s.ownSilenceCleared

/-- Every station the replica names as holder, waiter or arrived has an entry that is not ABSENT (R57). -/
def State.namesListed (s : State) : Bool :=
  s.tu.locks.toList.all (fun r => r.holder.all (fun h => s.standing h != .absent) &&
      r.waiters.all (fun w => s.standing w != .absent)) &&
    s.tu.barriers.toList.all (fun b =>
      allStations.all (fun t => !hasStation b.arrived t || s.standing t != .absent))

/-! ## A commit's checks and what it leaves (R12, R158) -/

/-- The first failing check of a list gives the commit result (R12, R158). -/
def firstFailing : List (Bool × CommitResult) → Option CommitResult
  | [] => none
  | (fails, result) :: rest => if fails then some result else firstFailing rest

/-- What a commit leaves: the first failing check's result with 00h in all four ANSWER octets and nothing else changed, or
the state of a commit that passes (R158). -/
def State.committed (s : State) (checks : List (Bool × CommitResult)) (passed : State) : State :=
  match firstFailing checks with
  | some result => s.answer result 0 0 0 0
  | none => passed

/-- A write to COMMIT is a commit of this kind: RESETn is high and REQUEST A holds the kind's code (R158). -/
def State.commits (kind : RequestKind) (s : State) : Bool := !s.resetAsserted && s.hp.requestA == kind.code

/-- Steps 1 to 5 of R12 and of R32. -/
def State.commonChecks (tag : Octet) (s : State) : List (Bool × CommitResult) :=
  [(s.station == .halted, .halted),
   (s.station == .watch || s.station == .outside, .notInStep),
   (s.hp.queue.any (fun r => r.body == .leave), .leaving),
   (tag == 0, .badTag),
   (s.hp.queue.any (fun r => r.tag == tag), .duplicateTag)]

/-- The QUEUE FULL check: the request queue holds 8 requests. -/
def State.fullCheck (s : State) : Bool × CommitResult := (decide (8 ≤ s.hp.queue.length), .queueFull)

/-- The first two checks of the kinds taken in IN STEP only (R43, R44, R169). -/
def State.inStepChecks (s : State) : List (Bool × CommitResult) :=
  [(s.station == .halted, .halted), (s.station != .inStep, .notInStep)]

/-- A queued kind accepted (R158, R159): the request at the tail, ANSWER A the number of requests now queued. -/
def State.queuedRequest (body : RequestBody) (tag : Octet) (s : State) : State :=
  { s with hp := { s.hp with
    queue := s.hp.queue ++ [⟨body, tag, false, false⟩], commitResult := .accepted,
    answerA := BitVec.ofNat 8 (s.hp.queue.length + 1), answerB := 0, answerC := 0, answerD := 0 } }

/-- The first request of a description leaves the queue; where it was the counted item, the counted item becomes none and
the counter 0 (R120, R159). -/
def State.withoutRequest (which : Request → Bool) (s : State) : State :=
  { s with
    hp := { s.hp with queue := s.hp.queue.eraseP which }
    ss := if (s.hp.queue.find? which).any (fun r => s.ss.counted == some (.request r.tag)) then
        { s.ss with counted := none, counter := 0 }
      else s.ss }

/-- A claim request for a lock. -/
def Request.claims (l : LockNo) (r : Request) : Bool := r.body == .claim l || r.body == .tryClaim l

/-- The claim request that a lock's claim record follows: the one with its claim tag (R11, log 28). -/
def State.follows (s : State) (l : LockNo) (r : Request) : Bool := r.claims l && r.tag == (s.claim l).tag

/-- An ARRIVE request for a barrier. -/
def Request.arrives (b : BarrierNo) (r : Request) : Bool :=
  match r.body with
  | .arrive b' _ => b' == b
  | _ => false

/-- A LEAVE accepted in JOINING or DIVERGED (R162): every queued request is answered CANCELLED, oldest first, its record
returns, and the LEAVE stands in the queue alone. -/
def State.leaveAlone (tag : Octet) (s : State) : State :=
  let t := s.hp.queue.foldl (fun u r => (u.indicate (.cancelled r.tag r.body.kind)).returnRecord r.body) s
  { t with
    hp := { t.hp with
      queue := [⟨.leave, tag, false, false⟩], commitResult := .accepted, answerA := 1, answerB := 0, answerC := 0,
      answerD := 0 }
    ss := if s.hp.queue.any (fun r => s.ss.counted == some (.request r.tag)) then
        { s.ss with counted := none, counter := 0 }
      else s.ss }

/-! ## Entries into the station states, field by field (R135, R136, R138, R139) -/

/-- The local records reset and the request queue emptied (R135 steps 2 and 3). -/
def HostPort.emptied (h : HostPort) : HostPort :=
  { h with
    queue := [], claims := Vector.replicate 32 ⟨.none, 0, 0⟩, arrivals := Vector.replicate 8 ⟨.none, 0, none⟩,
    watches := Vector.replicate 4 ⟨false, 0, 0, .equal, 0⟩ }

/-- The replica discarded (R135 step 1). -/
def emptyReplica : TableUnit :=
  ⟨Vector.replicate 16 ⟨.absent, 0⟩, Vector.replicate 32 ⟨none, []⟩, Vector.replicate 8 ⟨0, 0, 0⟩,
    Vector.replicate 16 0, 0⟩

/-- OUTSIDE entered with a cause, a tag and a discarded count (R130, R135). -/
def State.outsideBy (cause : Cause) (tag : Octet) (discarded : Nat) (s : State) : State :=
  State.indicate (.state .outside cause tag discarded)
    { s with
      tu := emptyReplica
      mc := ⟨.outside, s.mc.joiningCause, .cleared, .cleared, .cleared, Vector.replicate 16 .cleared⟩
      ss := ⟨s.ss.attempt.map (fun a => ⟨a.frame, none⟩), none, 0⟩
      hp := s.hp.emptied }

/-- The discarded count, which leaves out a LEAVE whose tag STATE carries (R130), with a cancel mark or without (log 29). -/
def State.discardedBesideLeave (s : State) : Nat :=
  s.hp.queue.length - if s.hp.queue.any (fun r => r.body == .leave) then 1 else 0

/-- HALTED entered with a cause (R136): the discarded count is every request queued. -/
def State.haltedBy (cause : Cause) (s : State) : State :=
  State.indicate (.state .halted cause 0 s.hp.queue.length)
    { s with
      le := ⟨.idle, 0, false, []⟩
      au := { s.au with orderHold := false, partialFrame := [], heard := none }
      tu := emptyReplica
      mc := ⟨.halted, s.mc.joiningCause, .cleared, .cleared, .cleared, Vector.replicate 16 .cleared⟩
      ss := ⟨none, none, 0⟩
      hp := s.hp.emptied }

/-- DIVERGED entered with a cause (R138). -/
def State.divergedBy (cause : Cause) (s : State) : State :=
  State.indicate (.state .diverged cause 0 0)
    { s with mc := { s.mc with state := .diverged, presence := .cleared, silence := Vector.replicate 16 .cleared } }

/-! ## The end of a slot (R81, R87, R99) -/

/-- The slot window ends: IDLE, gap count 0, nothing held of the frame (R81, R99). -/
def State.slotEnded (s : State) : State :=
  { s with
    le := { s.le with line := .idle, gapCount := 0, rxBits := [] }
    au := { s.au with partialFrame := [], heard := none } }

/-- A station that is not in reset stands at the end of the slot window of a heard frame. -/
def State.inSlotOf (h : HeardFrame) (s : State) : Bool :=
  !s.resetAsserted && s.le.line == .slot && s.au.heard == some h

/-- Whether a part, by its number, is in the local installed set (R144). Part 0 is the roster; lock l is in part 1 + l / 4,
barrier b in part 9 + b / 4, the word of station t in part 11 + t / 8 (R143, Table 9-1). -/
def State.holdsPart (s : State) (n : Nat) : Bool := s.tu.installed.getLsbD n

/-- An IN STEP or JOINING station that holds part 0 stands at the end of the slot of a good frame of a peer whose number
equals its own, and applies it to the parts it holds (R84, R85). -/
def State.countsPeer (f : Frame) (s : State) : Bool :=
  s.inSlotOf ⟨.good f, .none, false⟩ && (s.station == .inStep || s.station == .joining) && s.holdsPart 0 &&
    f.sender != s.me && f.order == s.au.order

/-- Such a frame whose sender's entry is MEMBER. -/
def State.hearsPeer (f : Frame) (s : State) : Bool := s.countsPeer f && s.standing f.sender == .member

/-- Whether the item in attempt stands in a lawful queue as an attempt leaves it: a request is the marked head, with no
cancel mark; while a duty is in attempt no request is marked (R118, R159). -/
def State.inHand (s : State) : Item → Bool
  | .request tag => (s.hp.queue.take 1).any (fun r => r.tag == tag && r.inAttempt && !r.cancelMark)
  | .evict _ => s.hp.queue.all (fun r => !r.inAttempt)
  | .resync => s.hp.queue.all (fun r => !r.inAttempt)
  | .snapshot => s.hp.queue.all (fun r => !r.inAttempt)
  | .presence => s.hp.queue.all (fun r => !r.inAttempt)

/-- A station, in whatever station state, stands at the end of the slot of its own frame, built for an item with its
number and its order number. -/
def State.sentFor (i : Item) (f : Frame) (s : State) : Bool :=
  s.inSlotOf ⟨.good f, .none, true⟩ && f.sender == s.me && f.order == s.au.order && s.requestsLawful &&
    s.ss.attempt == some ⟨f, some i⟩ && s.ss.counted == some i && s.inHand i

/-- The same at an IN STEP MEMBER that holds every part. -/
def State.hearsSent (i : Item) (f : Frame) (s : State) : Bool :=
  s.sentFor i f && s.station == .inStep && s.tu.installed == allPartsSet && s.standing s.me == .member

/-- An IN STEP MEMBER stands at the end of the slot of its own request frame. -/
def State.hearsOwn (tag : Octet) (f : Frame) (s : State) : Bool := s.hearsSent (.request tag) f

/-- A request frame at its sender, with the request's tag, or a frame at a station that applies a peer's. -/
def State.hears (own : Bool) (tag : Octet) (f : Frame) (s : State) : Bool :=
  if own then s.hearsOwn tag f else s.hearsPeer f

/-- A frame at its sender, for whatever item, or at a station that applies a peer's. -/
def State.hearsFor (own : Bool) (i : Item) (f : Frame) (s : State) : Bool :=
  if own then s.hearsSent i f else s.hearsPeer f

/-- The request queue after an accepted own frame: the head is gone where a request was in attempt (R119). -/
def State.settledQueue (s : State) : List Request :=
  match s.ss.attempt.bind (·.item) with
  | some (.request _) => s.hp.queue.drop 1
  | some (.evict _) => s.hp.queue
  | some .resync => s.hp.queue
  | some .snapshot => s.hp.queue
  | some .presence => s.hp.queue
  | none => s.hp.queue

/-- What an equal frame leaves at an IN STEP or JOINING station beside its effect on the table (R83, R87, R90, R93, R119,
R123, R124): the slot ended, the frame counted, its sender heard where the station is IN STEP; at its sender the attempt
ended accepted and its request gone from the queue's head. -/
def State.counted (own : Bool) (f : Frame) (s : State) : State :=
  { s with
    le := { s.le with line := .idle, gapCount := 0, rxBits := [], yieldFlag := own || s.le.yieldFlag }
    au := ⟨s.au.order + 1, true, false, [], none⟩
    mc := if own then { s.mc with presence := .running 4096 }
      else if s.station = .inStep then { s.mc with silence := s.mc.silence.set f.sender (.running 32768) }
      else s.mc
    ss := if own then ⟨none, none, 0⟩ else s.ss
    hp := if own then { s.hp with queue := s.settledQueue } else s.hp }

/-- What a frame leaves that a station tracks (R83, R86, R90, R93). -/
def State.tracked (f : Frame) (s : State) : State := { s.slotEnded with au := ⟨f.order + 1, true, false, [], none⟩ }

/-! ## What the install of a part reports (R22, R45, R141, R149) -/

/-- A claim record is WAITING or WITHDRAW QUEUED (R22). -/
def State.awaits (s : State) (l : LockNo) : Bool :=
  (s.claim l).phase == .waiting || (s.claim l).phase == .withdrawQueued

/-- Whether the install of a part's content makes a watch slot match: it is armed, its station's word is in the part, and
its condition holds of the word installed (R45). -/
def PartContent.matched (content : PartContent) (w : WatchSlot) : Bool :=
  match content with
  | .words g ws => w.armed && w.station.val / 8 == g.val && w.holds ws[Fin.ofNat 8 w.station.val]
  | .roster _ => false
  | .locks _ _ => false
  | .barriers _ _ => false

/-- The indications of the install itself: a late GRANTED with the claim tag for each lock of the part whose record awaits
it and whose installed holder is this station, in ascending lock number (R22); a WATCH MATCHED for each slot that matches,
in ascending slot number (R45). -/
def State.installReports (content : PartContent) (s : State) : List Indication :=
  match content with
  | .locks g ls =>
    (allLocks.filter (fun l => l.val / 4 == g.val && s.awaits l && ls[Fin.ofNat 4 l.val].holder == some s.me)).map
      (fun l => .granted (s.claim l).tag l)
  | .words _ ws =>
    (allSlots.filter (fun i => content.matched (s.watch i))).map
      (fun i => .watchMatched (s.watch i).tag (s.watch i).station ws[Fin.ofNat 8 (s.watch i).station.val])
  | .roster _ => []
  | .barriers _ _ => []

/-- Every indication of the install of a part at a JOINING station: its own, then STATE with the joining cause where the
installed set is complete with it (R22, R130, R141). -/
def State.joinerReports (content : PartContent) (s : State) : List Indication :=
  s.installReports content ++
    if s.tu.installed ||| BitVec.twoPow 13 content.part.val = allPartsSet then
      [.state .inStep s.mc.joiningCause.cause 0 0]
    else []

/-! ## The ends of an own frame that concern the sender alone (R89, R118) -/

/-- What an ORDER objection leaves at the sender before it acts by its state: the slot ended, the yield flag and the order
hold set (R89, R90, R110), with the Send Selector and the request queue as given. -/
def State.ordered (ss : SendSelector) (queue : List Request) (s : State) : State :=
  { s with
    le := { s.le with line := .idle, gapCount := 0, rxBits := [], yieldFlag := true }
    au := { s.au with partialFrame := [], heard := none, orderHold := true }
    ss := ss
    hp := { s.hp with queue := queue } }

/-- The request queue with no request in attempt. -/
def State.unmarkedQueue (s : State) : List Request := s.hp.queue.map (fun r => { r with inAttempt := false })

/-! ## Shorthands of the frames' effects -/

/-- Queue an indication at the sender of a frame. -/
def State.indicateAt (own : Bool) (r : Indication) (s : State) : State := if own then s.indicate r else s

/-- Set a claim record at the sender of a frame. -/
def State.setClaimAt (own : Bool) (l : LockNo) (c : ClaimRecord) (s : State) : State :=
  if own then s.setClaim l c else s

/-- Set an arrival record at the sender of a frame. -/
def State.setArrivalAt (own : Bool) (b : BarrierNo) (a : ArrivalRecord) (s : State) : State :=
  if own then s.setArrival b a else s

/-- Queue a run of indications, in order. -/
def HostPort.indicateAll (rs : List Indication) (h : HostPort) : HostPort := rs.foldl (fun u r => u.indicate r) h

/-! ## The transitions of the station state (Table 8-2) -/

/-- Whether Table 8-2 has a transition between two station states; a state may also stay. -/
def StationState.mayBecome : StationState → StationState → Bool
  | _, .watch => true
  | .watch, .outside => true
  | .outside, .inStep => true
  | .outside, .joining => true
  | .outside, .halted => true
  | .joining, .inStep => true
  | .joining, .outside => true
  | .joining, .halted => true
  | .inStep, .diverged => true
  | .inStep, .outside => true
  | .inStep, .halted => true
  | .diverged, .joining => true
  | .diverged, .outside => true
  | .diverged, .halted => true
  | a, b => a == b

end Sys2Proof.Machine
end

