-- ==== Sys2Proof/Certificates/Slice0/Obligations.lean ====
section
/-!
DEFINITION. The statements for the provers, in the order of OBLIGATIONS.json: the block and its resets; the host port; the
commits; the timers; the line and the attempt; frames and their slots; accepted frames; the frame codec; the invariants.
-/

open Sys2Proof Sys2Proof.Machine

/-! ## The block and its resets -/

/-- A step runs the command at the front of its queue on the state with the queue's rest. On an empty queue a contender's
head ends, won, and it enters SENDING (R104); in every other state the step idles. That the commands wait in a queue is the
model's choice (log 1), and that the head is won on an empty queue too (log 11). -/
def Obligations.StepRunsFrontCommand : Prop :=
  (∀ (c : Instr) (s : State), step { s with pending := c :: s.pending } = exec c s) ∧
  (∀ s : State, s.pending = [] →
    (s.resetAsserted = false → s.le.line = .contending → step s = .next { s with le := { s.le with line := .sending } }) ∧
    (s.resetAsserted = true ∨ s.le.line ≠ .contending → step s = .next s))

/-- POWER_ON_RESET samples the straps and gives every block the values of Table 8-4, queues no indication and enters WATCH
with the quiet watch started; the model's `hostData` and the waiting commands are kept (log 1, log 5). -/
def Obligations.PowerOnResetValues : Prop :=
  ∀ (station : Station) (bitRate : BitVec 2) (s : State), exec (.powerOnReset station bitRate) s = .next
    { straps := ⟨station, bitRate⟩
      resetAsserted := false
      le := ⟨.idle, 0, false, []⟩
      au := ⟨0, false, false, [], none⟩
      tu := emptyReplica
      mc := ⟨.watch, .joined, .running 16384, .cleared, .cleared, Vector.replicate 16 .cleared⟩
      ss := ⟨none, none, 0⟩
      hp :=
        { requestA := 0, requestB := 0, requestC := 0, requestD := 0
          answerA := 0, answerB := 0, answerC := 0, answerD := 0
          commitResult := .noCommit, queue := [], indications := [], readPos := 0, overrun := false
          irqPending := false, irqOverrun := false
          claims := Vector.replicate 32 ⟨.none, 0, 0⟩
          arrivals := Vector.replicate 8 ⟨.none, 0, none⟩
          watches := Vector.replicate 4 ⟨false, 0, 0, .equal, 0⟩ }
      hostData := s.hostData
      pending := s.pending }

/-- The model's reset state is the state right after a release of power-on reset, with straps and `hostData` of the model's
choice (log 4, log 5), and it keeps every invariant of the model. -/
def Obligations.ResetMeetsInvariants : Prop :=
  (∀ s : State, s.hostData = 0 → s.pending = [] → exec (.powerOnReset 0 0) s = .next State.reset) ∧
  State.reset.indicationsBounded = true ∧ State.reset.replicaLawful = true ∧ State.reset.lifeConsistent = true ∧
  State.reset.namesListed = true

/-- RESETN_ASSERTED releases the line and HIRQn and ends any attempt without an outcome; and while it is asserted every
command but the reset pin's own changes nothing. What is kept until the release is the model's choice (log 9). -/
def Obligations.ResetAssertedHolds : Prop :=
  (∀ s : State, exec .resetnAsserted s = .next
    { s with
      resetAsserted := true
      le := { s.le with line := .idle, rxBits := [] }
      au := { s.au with partialFrame := [], heard := none }
      ss := { s.ss with attempt := none }
      hp := { s.hp with queue := s.hp.queue.map (fun r => { r with inAttempt := false }) } }) ∧
  (∀ (c : Instr) (s : State), s.resetAsserted = true → c ≠ .resetnAsserted → (∀ n b, c ≠ .powerOnReset n b) →
    exec c s = .next s) ∧
  (∀ s : State, s.resetAsserted = true → s.hirqAsserted = false)

/-! ## The host port -/

/-- A write to PORT CONTROL (R132, R172). With RESTART set, the other two bits disregarded: Table 8-4 but for the straps, and
one STATE with the number of requests that were queued. A frame whose slot ends as the restart is written, its slot end taken
after the restart, meets the WATCH station, which tracks it and sets cluster-known (R132): for that the model holds the frame
of a running slot through the restart (log 27). With RESTART clear: CLEAR OVERRUN clears OVERRUN, REWIND returns the read
position to kind, both where both are set, nothing where neither is; in every station state, and with no commit result. The
three rows of PORT CONTROL are one write (log 7). -/
def Obligations.PortControlWritten : Prop :=
  (∀ (o : Octet) (s : State), s.resetAsserted = false → o.getLsbD 0 = true →
    let restarted : State :=
      { straps := s.straps
        resetAsserted := false
        le := ⟨.idle, 0, false, []⟩
        au := ⟨0, false, false, [],
          if s.le.line = .slot then s.au.heard.map (fun h => ⟨h.classification, .none, false⟩) else none⟩
        tu := emptyReplica
        mc := ⟨.watch, .joined, .running 16384, .cleared, .cleared, Vector.replicate 16 .cleared⟩
        ss := ⟨none, none, 0⟩
        hp :=
          { requestA := 0, requestB := 0, requestC := 0, requestD := 0
            answerA := 0, answerB := 0, answerC := 0, answerD := 0
            commitResult := .noCommit, queue := []
            indications := [⟨.state, 0, 0, 0x0B, BitVec.ofNat 8 s.hp.queue.length⟩]
            readPos := 0, overrun := false, irqPending := false, irqOverrun := false
            claims := Vector.replicate 32 ⟨.none, 0, 0⟩
            arrivals := Vector.replicate 8 ⟨.none, 0, none⟩
            watches := Vector.replicate 4 ⟨false, 0, 0, .equal, 0⟩ }
        hostData := s.hostData
        pending := s.pending }
    exec (.restart o) s = .next restarted ∧
    (∀ h : HeardFrame, s.inSlotOf h = true → ∀ f : Frame, h.classification = .good f →
      exec (.slotWindowEnd .nothing) restarted = .next
        { restarted with au := ⟨f.order + 1, true, false, [], none⟩ })) ∧
  (∀ (o : Octet) (s : State), s.resetAsserted = false → o.getLsbD 0 = false →
    let t : State := { s with hp := { s.hp with
      overrun := !o.getLsbD 1 && s.hp.overrun
      readPos := if o.getLsbD 2 then 0 else s.hp.readPos } }
    exec (.clearOverrun o) s = .next t ∧ exec (.rewind o) s = .next t ∧ exec (.restart o) s = .next t)

/-- A read of INDICATION WINDOW (R166, R182): the five octets of the head record in turn, the fifth removing it; 00h of an
empty queue. The octet read stands in the model's `hostData` (log 5). -/
def Obligations.IndicationWindowReads : Prop :=
  ∀ s : State, s.resetAsserted = false →
    (s.hp.indications = [] → exec .indicationWindow s = .next { s with hostData := 0x00 }) ∧
    (∀ (r : Indication) (rest : List Indication), s.hp.indications = r :: rest →
      (s.hp.readPos = 0 → exec .indicationWindow s =
        .next { s with hostData := r.kind.code, hp := { s.hp with readPos := 1 } }) ∧
      (s.hp.readPos = 1 → exec .indicationWindow s = .next { s with hostData := r.tag, hp := { s.hp with readPos := 2 } }) ∧
      (s.hp.readPos = 2 → exec .indicationWindow s = .next { s with hostData := r.a, hp := { s.hp with readPos := 3 } }) ∧
      (s.hp.readPos = 3 → exec .indicationWindow s = .next { s with hostData := r.b, hp := { s.hp with readPos := 4 } }) ∧
      (s.hp.readPos = 4 → exec .indicationWindow s =
        .next { s with hostData := r.c, hp := { s.hp with indications := rest, readPos := 0 } }))

/-- A write to REQUEST A to D stores the octet and does nothing else, and a write to offset 6 is disregarded (R157); a write to
IRQ ENABLE sets both enables and nothing else, and HIRQn is asserted exactly while an enabled condition holds (R168). -/
def Obligations.HostWritesStored : Prop :=
  (∀ (o : Octet) (s : State), s.resetAsserted = false →
    exec (.registerWrite .requestA o) s = .next { s with hp := { s.hp with requestA := o } } ∧
    exec (.registerWrite .requestB o) s = .next { s with hp := { s.hp with requestB := o } } ∧
    exec (.registerWrite .requestC o) s = .next { s with hp := { s.hp with requestC := o } } ∧
    exec (.registerWrite .requestD o) s = .next { s with hp := { s.hp with requestD := o } } ∧
    exec (.registerWrite .offset6 o) s = .next s) ∧
  ((∀ (o : Octet) (s : State), s.resetAsserted = false → exec (.irqEnable o) s = .next
    { s with hp := { s.hp with irqPending := o.getLsbD 0, irqOverrun := o.getLsbD 1 } }) ∧
  (∀ s : State, s.resetAsserted = false →
    (s.hirqAsserted = true ↔
      (s.hp.indications ≠ [] ∧ s.hp.irqPending = true) ∨ (s.hp.overrun = true ∧ s.hp.irqOverrun = true))))

/-- PORT STATUS and STATION show the state as it stands (R173, Table 12-4). -/
def Obligations.StatusReads : Prop :=
  ∀ s : State,
    ((s.hostRead 0).getLsbD 0 = true ↔ s.hp.indications ≠ []) ∧
    ((s.hostRead 0).getLsbD 1 = s.hp.overrun) ∧
    ((s.hostRead 0).getLsbD 2 = true ↔ 8 ≤ s.hp.queue.length) ∧
    ((s.hostRead 0).getLsbD 3 = true ↔ s.hp.queue = []) ∧
    ((s.hostRead 0).getLsbD 4 = true ↔ s.le.line = .held) ∧
    ((s.hostRead 0).toNat / 32 = s.station.code) ∧
    ((s.hostRead 7).toNat = s.station.code * 16 + s.straps.station.val)

/-- An indication joins the tail of a queue of fewer than 16 records; at 16 it is discarded and OVERRUN is set (R165,
R167). -/
def Obligations.IndicationQueued : Prop :=
  ∀ (r : Indication) (s : State),
    (s.hp.indications.length < 16 → s.indicate r = { s with hp := { s.hp with indications := s.hp.indications ++ [r] } }) ∧
    (16 ≤ s.hp.indications.length → s.indicate r = { s with hp := { s.hp with overrun := true } })

/-! ## The commits -/

/-- A commit with no request kind's code in REQUEST A (R158): HALTED in HALTED, UNKNOWN KIND otherwise. A commit of JOIN
(R161): its checks in their order, then the request at the tail. -/
def Obligations.CommitUnknownAndJoinChecked : Prop :=
  (∀ (tag : Octet) (s : State), s.resetAsserted = false → (s.hp.requestA = 0 ∨ 0x11 < s.hp.requestA.toNat) →
    exec (.commitUnknownKind tag) s =
      .next (s.committed [(s.station == .halted, .halted), (true, .unknownKind)] s)) ∧
  (∀ (tag : Octet) (s : State), s.commits .join = true →
    exec (.commitJoin tag) s = .next (s.committed
      [(s.station == .halted, .halted),
       (s.station == .joining || s.station == .inStep || s.station == .diverged, .alreadyMember),
       (tag == 0, .badTag),
       (s.hp.queue.any (fun r => r.tag == tag), .duplicateTag),
       (s.hp.queue.any (fun r => r.body == .join), .already)]
      (s.queuedRequest .join tag)))

/-- A commit of LEAVE (R162): at the tail in IN STEP, with QUEUE FULL; alone in the queue in JOINING and DIVERGED, with
every other request answered CANCELLED. -/
def Obligations.CommitLeaveChecked : Prop :=
  ∀ (tag : Octet) (s : State), s.commits .leave = true →
    (s.station ≠ .joining → s.station ≠ .diverged → exec (.commitLeave tag) s =
      .next (s.committed (s.commonChecks tag ++ [s.fullCheck]) (s.queuedRequest .leave tag))) ∧
    (s.station = .joining ∨ s.station = .diverged → s.requestsLawful = true → exec (.commitLeave tag) s =
      .next (s.committed (s.commonChecks tag) (s.leaveAlone tag)))

/-- A commit of CLAIM or TRY CLAIM (R12), and of RELEASE (R13). -/
def Obligations.CommitLockChecked : Prop :=
  (∀ (tag : Octet) (s : State),
    (31 < s.hp.requestB.toNat →
      (s.commits .claim = true → exec (.commitClaim tag) s =
        .next (s.committed (s.commonChecks tag ++ [(true, .range)]) s)) ∧
      (s.commits .tryClaim = true → exec (.commitTryClaim tag) s =
        .next (s.committed (s.commonChecks tag ++ [(true, .range)]) s))) ∧
    (∀ l : LockNo, s.hp.requestB = BitVec.ofNat 8 l.val →
      let checks := s.commonChecks tag ++ [((s.claim l).phase != .none, .already), s.fullCheck]
      let record : ClaimRecord := ⟨.claimQueued, tag, (s.claim l).withdrawals⟩
      (s.commits .claim = true → exec (.commitClaim tag) s =
        .next (s.committed checks ((s.setClaim l record).queuedRequest (.claim l) tag))) ∧
      (s.commits .tryClaim = true → exec (.commitTryClaim tag) s =
        .next (s.committed checks ((s.setClaim l record).queuedRequest (.tryClaim l) tag))))) ∧
  (∀ (tag : Octet) (s : State), s.commits .release = true →
    (31 < s.hp.requestB.toNat → exec (.commitRelease tag) s =
      .next (s.committed (s.commonChecks tag ++ [(true, .range)]) s)) ∧
    (∀ l : LockNo, s.hp.requestB = BitVec.ofNat 8 l.val → exec (.commitRelease tag) s =
      .next (s.committed (s.commonChecks tag ++ [((s.claim l).phase != .held, .notHolder), s.fullCheck])
        ((s.setClaim l { s.claim l with phase := .releaseQueued }).queuedRequest (.release l) tag))))

/-- A commit of WITHDRAW (R14), at a lawful request queue: local while the claim is queued and not in attempt, queued
otherwise. That the claim is the request with the record's claim tag, where two claims for the lock are queued, is read from
R11 (log 28). -/
def Obligations.CommitWithdrawChecked : Prop :=
  ∀ (tag : Octet) (s : State), s.commits .withdraw = true → s.requestsLawful = true →
    (31 < s.hp.requestB.toNat → exec (.commitWithdraw tag) s =
      .next (s.committed (s.commonChecks tag ++ [(true, .range)]) s)) ∧
    (∀ l : LockNo, s.hp.requestB = BitVec.ofNat 8 l.val →
      let c := s.claim l
      let notWaiting := c.phase == .none || c.phase == .held || c.phase == .releaseQueued
      let checks := s.commonChecks tag ++ [(notWaiting, .notWaiting)]
      (c.phase = .claimQueued → s.hp.queue.any (fun r => s.follows l r && r.inAttempt) = false →
        exec (.commitWithdraw tag) s = .next (s.committed checks
          (State.answer .accepted (BitVec.ofNat 8 (s.hp.queue.eraseP (s.follows l)).length) 0 0 0
            (((s.withoutRequest (s.follows l)).setClaim l ⟨.none, 0, c.withdrawals⟩).indicate (.withdrawn c.tag l))))) ∧
      (c.phase = .claimQueued → s.hp.queue.any (fun r => s.follows l r && r.inAttempt) = true →
        exec (.commitWithdraw tag) s = .next (s.committed (checks ++ [s.fullCheck])
          ((s.setClaim l { c with withdrawals := c.withdrawals + 1 }).queuedRequest (.withdraw l) tag))) ∧
      (c.phase ≠ .claimQueued → exec (.commitWithdraw tag) s = .next (s.committed (checks ++ [s.fullCheck])
        ((s.setClaim l ⟨.withdrawQueued, c.tag, c.withdrawals + 1⟩).queuedRequest (.withdraw l) tag))))

/-- A commit of ARRIVE (R32). -/
def Obligations.CommitArriveChecked : Prop :=
  ∀ (tag : Octet) (s : State), s.commits .arrive = true →
    let count := s.hp.requestC.toNat
    (7 < s.hp.requestB.toNat → exec (.commitArrive tag) s =
      .next (s.committed (s.commonChecks tag ++ [(true, .range)]) s)) ∧
    (∀ b : BarrierNo, s.hp.requestB = BitVec.ofNat 8 b.val → exec (.commitArrive tag) s =
      .next (s.committed
        (s.commonChecks tag ++ [(decide (count < 2) || decide (16 < count), .range),
          ((s.arrival b).phase != .none, .already), s.fullCheck])
        ((s.setArrival b ⟨.arriveQueued, tag, none⟩).queuedRequest (.arrive b count) tag)))

/-- A commit of ABANDON (R33), at a lawful request queue: local while the ARRIVE is queued and not in attempt, queued
otherwise. -/
def Obligations.CommitAbandonChecked : Prop :=
  ∀ (tag : Octet) (s : State), s.commits .abandon = true → s.requestsLawful = true →
    (7 < s.hp.requestB.toNat → exec (.commitAbandon tag) s =
      .next (s.committed (s.commonChecks tag ++ [(true, .range)]) s)) ∧
    (∀ b : BarrierNo, s.hp.requestB = BitVec.ofNat 8 b.val →
      let a := s.arrival b
      let checks := s.commonChecks tag ++ [(a.phase == .none || a.phase == .abandonQueued, .notArrived)]
      (a.phase = .arriveQueued → s.hp.queue.any (fun r => r.arrives b && r.inAttempt) = false →
        exec (.commitAbandon tag) s = .next (s.committed checks
          (State.answer .accepted (BitVec.ofNat 8 (s.hp.queue.eraseP (·.arrives b)).length) 0 0 0
            (((s.withoutRequest (·.arrives b)).setArrival b ⟨.none, 0, none⟩).indicate
              (.abandoned a.tag b 0 .localOnly))))) ∧
      (a.phase = .arriveQueued → s.hp.queue.any (fun r => r.arrives b && r.inAttempt) = true →
        exec (.commitAbandon tag) s = .next (s.committed (checks ++ [s.fullCheck])
          ((s.setArrival b ⟨.abandonQueued, a.tag, none⟩).queuedRequest (.abandon b) tag))) ∧
      (a.phase ≠ .arriveQueued → exec (.commitAbandon tag) s = .next (s.committed (checks ++ [s.fullCheck])
        ((s.setArrival b ⟨.abandonQueued, a.tag, a.generation⟩).queuedRequest (.abandon b) tag))))

/-- A commit of PUBLISH or POST (R41). That RANGE stands before QUEUE FULL for POST is read from R32 (log 18). -/
def Obligations.CommitPublishPostChecked : Prop :=
  ∀ (tag : Octet) (s : State),
    (s.commits .publish = true → exec (.commitPublish tag) s =
      .next (s.committed (s.commonChecks tag ++ [s.fullCheck])
        (s.queuedRequest (.publish (s.hp.requestB ++ s.hp.requestC)) tag))) ∧
    (s.commits .post = true →
      (15 < s.hp.requestB.toNat → exec (.commitPost tag) s =
        .next (s.committed (s.commonChecks tag ++ [(true, .range)]) s)) ∧
      (∀ target : Station, s.hp.requestB = BitVec.ofNat 8 target.val → exec (.commitPost tag) s =
        .next (s.committed (s.commonChecks tag ++ [s.fullCheck])
          (s.queuedRequest (.post target s.hp.requestC) tag))))

/-- A commit of CANCEL (R163), at a lawful request queue: a request not in attempt is removed and answered CANCELLED, its
local record returned, and a request in attempt is marked. The second part says what a record becomes when its request
leaves the queue unapplied, here and wherever `State.returnRecord` stands in a statement (R20, R37): a claim's record NONE;
RELEASE QUEUED back to HELD; one withdrawal fewer, and after the last WITHDRAW QUEUED back to WAITING; an unapplied
arrival's record NONE; ABANDON QUEUED back to ARRIVED or ARRIVE QUEUED; every other record as it was. -/
def Obligations.CommitCancelChecked : Prop :=
  (∀ (tag : Octet) (s : State), s.commits .cancel = true → s.requestsLawful = true →
    let named := s.hp.requestB
    let checks : List (Bool × CommitResult) :=
      [(s.station == .halted, .halted), (s.station == .watch, .notInStep), (named == 0, .badTag),
       (!s.hp.queue.any (fun r => r.tag == named), .unknownTag),
       (s.hp.queue.any (fun r => r.tag == named && r.inAttempt && r.cancelMark), .already)]
    (s.hp.queue.any (fun r => r.tag == named) = false → exec (.commitCancel tag) s = .next (s.committed checks s)) ∧
    (∀ r ∈ s.hp.queue, r.tag = named →
      (r.inAttempt = false → exec (.commitCancel tag) s = .next (s.committed checks
        (State.answer .accepted 0x01 (BitVec.ofNat 8 (s.hp.queue.length - 1)) 0 0
          (((s.withoutRequest (fun x => x.tag == named)).indicate (.cancelled named r.body.kind)).returnRecord
            r.body)))) ∧
      (r.inAttempt = true → exec (.commitCancel tag) s = .next (s.committed checks
        (State.answer .accepted 0x02 (BitVec.ofNat 8 s.hp.queue.length) 0 0
          { s with hp := { s.hp with
            queue := s.hp.queue.map (fun x => if x.tag = named then { x with cancelMark := true } else x) } }))))) ∧
  (∀ s : State,
    (∀ l : LockNo,
      let c := s.claim l
      let fewer := c.withdrawals - 1
      s.returnRecord (.claim l) = s.setClaim l ⟨.none, 0, c.withdrawals⟩ ∧
      s.returnRecord (.tryClaim l) = s.setClaim l ⟨.none, 0, c.withdrawals⟩ ∧
      (c.phase = .releaseQueued → s.returnRecord (.release l) = s.setClaim l ⟨.held, c.tag, c.withdrawals⟩) ∧
      (c.phase ≠ .releaseQueued → s.returnRecord (.release l) = s) ∧
      (c.phase = .withdrawQueued → fewer = 0 → s.returnRecord (.withdraw l) = s.setClaim l ⟨.waiting, c.tag, 0⟩) ∧
      (c.phase ≠ .withdrawQueued ∨ fewer ≠ 0 →
        s.returnRecord (.withdraw l) = s.setClaim l ⟨c.phase, c.tag, fewer⟩)) ∧
    (∀ b : BarrierNo,
      let a := s.arrival b
      let unapplied := a.phase = .arriveQueued ∨ (a.phase = .abandonQueued ∧ a.generation = none)
      (∀ count, (unapplied → s.returnRecord (.arrive b count) = s.setArrival b ⟨.none, 0, none⟩) ∧
        (¬ unapplied → s.returnRecord (.arrive b count) = s)) ∧
      (a.phase = .abandonQueued → a.generation = none →
        s.returnRecord (.abandon b) = s.setArrival b ⟨.arriveQueued, a.tag, none⟩) ∧
      (∀ g, a.phase = .abandonQueued → a.generation = some g →
        s.returnRecord (.abandon b) = s.setArrival b ⟨.arrived, a.tag, some g⟩) ∧
      (a.phase ≠ .abandonQueued → s.returnRecord (.abandon b) = s)) ∧
    s.returnRecord .join = s ∧ s.returnRecord .leave = s ∧ (∀ v, s.returnRecord (.publish v) = s) ∧
    (∀ t k, s.returnRecord (.post t k) = s))

/-- A commit of ARM WATCH (R43): the slot takes tag, station, condition and match value, and a condition that holds at once
matches at the commit; and of DISARM WATCH (R44). -/
def Obligations.CommitWatchChecked : Prop :=
  (∀ (tag : Octet) (s : State) (i : SlotNo) (k : Station) (code : Fin 4), s.commits .armWatch = true →
    s.hp.requestB = BitVec.ofNat 8 (i.val * 64 + code.val * 16 + k.val) →
    let checks := s.inStepChecks ++
      [(tag == 0, .badTag),
       (s.hp.queue.any (fun r => r.tag == tag) || allSlots.any (fun j => (s.watch j).armed && (s.watch j).tag == tag),
        .duplicateTag),
       (code == 3, .range), ((s.watch i).armed, .already)]
    let v := s.word k
    let given : Word16 := s.hp.requestC ++ s.hp.requestD
    let armed (w : WatchSlot) : State :=
      (s.setWatch i w).answer .accepted (BitVec.ofNat 8 i.val) (BitVec.ofNat 8 k.val) (v.extractLsb' 8 8)
        (v.extractLsb' 0 8)
    let matched (w : WatchSlot) : State :=
      ((armed w).indicate ⟨.watchMatched, tag, BitVec.ofNat 8 k.val, v.extractLsb' 8 8, v.extractLsb' 0 8⟩).setWatch i
        { w with armed := false, tag := 0 }
    exec (.armWatch tag) s = .next (s.committed checks
      (if code = 0 then
        if v = given then matched ⟨true, tag, k, .equal, given⟩ else armed ⟨true, tag, k, .equal, given⟩
      else if code = 1 then
        if v ≠ given then matched ⟨true, tag, k, .notEqual, given⟩ else armed ⟨true, tag, k, .notEqual, given⟩
      else armed ⟨true, tag, k, .anyChange, v⟩))) ∧
  (∀ (tag : Octet) (s : State), s.commits .disarmWatch = true →
    (3 < s.hp.requestB.toNat → exec (.disarmWatch tag) s = .next (s.committed (s.inStepChecks ++ [(true, .range)]) s)) ∧
    (∀ i : SlotNo, s.hp.requestB = BitVec.ofNat 8 i.val → exec (.disarmWatch tag) s =
      .next (s.committed s.inStepChecks
        (if (s.watch i).armed then
          (s.setWatch i { s.watch i with armed := false, tag := 0 }).answer .accepted (BitVec.ofNat 8 i.val) 0x01 0 0
        else s.answer .accepted (BitVec.ofNat 8 i.val) 0x00 0 0))))

/-- QUERY LOCK, QUERY BARRIER, QUERY ROSTER and QUERY WORD (R169 to R171). ANSWER D of QUERY ROSTER is the lowest MEMBER; in a
roster with none it is a free value, of which nothing is said (log 17). -/
def Obligations.QueriesAnswered : Prop :=
  (∀ (tag : Octet) (s : State),
    (s.commits .queryLock = true →
      (31 < s.hp.requestB.toNat → exec (.queryLock tag) s = .next (s.committed (s.inStepChecks ++ [(true, .range)]) s)) ∧
      (∀ l : LockNo, s.hp.requestB = BitVec.ofNat 8 l.val → exec (.queryLock tag) s =
        .next (s.committed s.inStepChecks (s.answer .accepted
          (match (s.lock l).holder with
            | some h => BitVec.ofNat 8 h.val
            | none => 0xFF)
          (BitVec.ofNat 8 (s.lock l).waiters.length)
          (match (s.lock l).waiters.findIdx? (fun w => w == s.me) with
            | some n => BitVec.ofNat 8 (n + 1)
            | none => 0)
          (s.claim l).phase.code)))) ∧
    (s.commits .queryBarrier = true →
      (7 < s.hp.requestB.toNat → exec (.queryBarrier tag) s =
        .next (s.committed (s.inStepChecks ++ [(true, .range)]) s)) ∧
      (∀ b : BarrierNo, s.hp.requestB = BitVec.ofNat 8 b.val → exec (.queryBarrier tag) s =
        .next (s.committed s.inStepChecks (s.answer .accepted (s.barrier b).generation
          (BitVec.ofNat 8 (s.barrier b).partyCount) (BitVec.ofNat 8 (stationCount (s.barrier b).arrived))
          (s.arrival b).phase.code))))) ∧
  (∀ (tag : Octet) (s : State),
    (s.commits .queryRoster = true →
      (15 < s.hp.requestB.toNat → exec (.queryRoster tag) s =
        .next (s.committed (s.inStepChecks ++ [(true, .range)]) s)) ∧
      (∀ k : Station, s.hp.requestB = BitVec.ofNat 8 k.val → ∃ d : Octet,
        exec (.queryRoster tag) s = .next (s.committed s.inStepChecks (s.answer .accepted (s.standing k).code
          (BitVec.ofNat 8 ((s.entry k).installed.toNat / 256)) (BitVec.ofNat 8 ((s.entry k).installed.toNat % 256)) d)) ∧
        ∀ source : Station, s.standing source = .member → (∀ t < source, s.standing t ≠ .member) →
          d = BitVec.ofNat 8 source.val)) ∧
    (s.commits .queryWord = true →
      (15 < s.hp.requestB.toNat → exec (.queryWord tag) s =
        .next (s.committed (s.inStepChecks ++ [(true, .range)]) s)) ∧
      (∀ k : Station, s.hp.requestB = BitVec.ofNat 8 k.val → exec (.queryWord tag) s =
        .next (s.committed s.inStepChecks (s.answer .accepted (s.standing k).code 0x00
          (BitVec.ofNat 8 ((s.word k).toNat / 256)) (BitVec.ofNat 8 ((s.word k).toNat % 256)))))))

/-! ## The timers -/

/-- The quiet watch ends (R134): WATCH to OUTSIDE, no STATE, nothing discarded; an expiry in any other state changes nothing,
since the timer runs in WATCH alone (log 8). A presence timer or a silence timer that runs expires and stops, which makes
the PRESENCE or the EVICT pending (R123, R125, Table 7-1), and nothing else changes. -/
def Obligations.OwnTimersExpire : Prop :=
  (∀ s : State, s.resetAsserted = false →
    (∀ n, s.station = .watch → s.mc.quietWatch = .running n →
      exec .quietWatchExpiry s = .next { s with mc := { s.mc with state := .outside, quietWatch := .cleared } }) ∧
    (s.station ≠ .watch → exec .quietWatchExpiry s = .next s)) ∧
  (∀ (s : State) (n : Nat), s.resetAsserted = false →
    (s.mc.presence = .running n → ∃ t, exec .presenceTimerExpiry s = .next t ∧
      t = { s with mc := { s.mc with presence := .expired } } ∧
      (t.presencePending = true ↔ s.station = .joining ∨ s.station = .inStep)) ∧
    (∀ peer : Station, s.mc.silence[peer] = .running n → ∃ t, exec (.silenceTimerExpiry peer) s = .next t ∧
      t = { s with mc := { s.mc with silence := s.mc.silence.set peer .expired } } ∧
      (t.evictPending peer = true ↔ s.station = .inStep)))

/-- The loss of the cluster: by the transfer timer at a JOINING station (R60; an expiry in any other state changes nothing,
log 8), and at a JOINING station that holds part 0 by the last MEMBER's LEAVE, RESYNC, rejoin JOIN or EVICT of itself (R51,
R54, R55, R59): OUTSIDE with cause CLUSTER LOST, cluster-known clear, the tag of a LEAVE in the request queue (not
counted, with a cancel mark too: log 29), and no departure effect or peer indication. -/
def Obligations.ClusterLost : Prop :=
  (∀ s : State, s.resetAsserted = false →
    (∀ n, s.station = .joining → s.mc.transfer = .running n →
      exec .transferTimerExpiry s = .next (State.outsideBy .clusterLost s.leaveTag s.discardedBesideLeave
        { s with au := { s.au with clusterKnown := false } })) ∧
    (s.station ≠ .joining → exec .transferTimerExpiry s = .next s)) ∧
  (∀ (s : State) (f : Frame), s.hearsPeer f = true → s.station = .joining → (∀ t, t ≠ f.sender → s.standing t ≠ .member) →
    f.body = .leave ∨ f.body = .resync ∨ f.body = .join true ∨ f.body = .join false ∨ f.body = .evict f.sender →
    exec (.slotWindowEnd .nothing) s = .next (State.outsideBy .clusterLost s.leaveTag s.discardedBesideLeave
      { s.slotEnded with au := ⟨f.order + 1, false, false, [], none⟩ }))

/-! ## The line -/

/-- The clear gap clears the yield flag (R110); a dominant level before the line is open starts the gap count again (R99),
which is held by its landmarks (log 3). A start bit while the line is open takes an IDLE Line Engine to RECEIVING (R100),
with the gap count back at 0 (R110); before the line is open it is no frame and only starts the gap count again (R99), and a
HALTED Line Engine goes no further than IDLE (R98). Either event drops a frame that a port restart left in hand (log 27). In
another state of the Line Engine a start bit changes nothing (log 8). A stall drops the partial frame and returns to IDLE
with gap count 0 (R102). -/
def Obligations.IdleLineEvents : Prop :=
  (∀ s : State, s.resetAsserted = false → s.le.line = .idle →
    exec .clearGap s = .next { s with le := { s.le with gapCount := max s.le.gapCount 24, yieldFlag := false } } ∧
    (s.le.gapCount < 12 → exec .dominantBeforeOpen s = .next
      { s with le := { s.le with gapCount := 0 }, au := { s.au with heard := none } })) ∧
  (∀ s : State, s.resetAsserted = false →
    (s.le.line = .idle → 12 ≤ s.le.gapCount → s.station ≠ .halted → exec .startBit s = .next
      { s with
        le := { s.le with line := .receiving, gapCount := 0, rxBits := [] }
        au := { s.au with partialFrame := [], heard := none } }) ∧
    (s.le.line = .idle → s.le.gapCount < 12 ∨ s.station = .halted → exec .startBit s = .next
      { s with le := { s.le with gapCount := 0 }, au := { s.au with heard := none } }) ∧
    (s.le.line ≠ .idle → exec .startBit s = .next s) ∧
    (s.le.line = .receiving → exec .stall s = .next s.slotEnded))

/-- A line-held condition (R112, R113): HELD from any state, the frame in progress dropped, one LINE HELD queued; a sender's
attempt fails first (Obligations.FailedAttempt; that its answer comes before LINE HELD is read from Table 6-3, log 13; that
a CONTENDING station has won its head by then and fails as a SENDING one is the model's choice, log 11). At its end IDLE
with gap count 0. A beginning in HELD changes nothing (log 8). -/
def Obligations.LineHeldCondition : Prop :=
  ∀ s : State, s.resetAsserted = false →
    let held (t : State) : State := State.indicate ⟨.lineHeld, 0, 0, 0, 0⟩
      { t with
        le := { t.le with line := .held, rxBits := [] }
        au := { t.au with partialFrame := [], heard := none } }
    let sending := s.le.line = .contending ∨ s.le.line = .sending ∨
      (s.le.line = .slot ∧ s.au.heard.any (fun h => h.own) = true)
    (s.le.line ≠ .held → ¬ sending → exec .lineHeldBegin s = .next (held s)) ∧
    (sending → exec .lineHeldBegin s = .next (held s.failAttempt)) ∧
    (s.le.line = .held → exec .lineHeldBegin s = .next s ∧
      exec .lineHeldEnd s = .next { s with le := { s.le with line := .idle, gapCount := 0 } })

/-! ## The attempt -/

/-- Table 7-2: what the Send Selector chooses in each station state (R116), the SNAPSHOT where a part is missing from some
JOINING entry (log 16). -/
def Obligations.ChoiceFollowsTable72 : Prop :=
  ∀ s : State,
    let snapshotOwed := s.standing s.me = .member ∧ (∀ t < s.me, s.standing t ≠ .member) ∧
      ∃ t, s.standing t = .joining ∧ (s.entry t).installed ≠ allPartsSet
    (s.station = .watch ∨ s.station = .halted → s.choose = none) ∧
    (s.station = .outside → s.choose = match s.hp.queue with
      | ⟨.join, tag, _, _⟩ :: _ => some (.request tag)
      | _ => none) ∧
    (s.station = .joining → s.choose = match s.hp.queue with
      | ⟨.leave, tag, _, _⟩ :: _ => some (.request tag)
      | _ => if s.mc.presence = .expired then some .presence else none) ∧
    (s.station = .diverged → s.choose = match s.hp.queue with
      | ⟨.leave, tag, _, _⟩ :: _ => some (.request tag)
      | _ => some .resync) ∧
    (s.station = .inStep →
      (∀ t : Station, s.mc.silence[t] = .expired → (∀ k < t, s.mc.silence[k] ≠ .expired) →
        s.choose = some (.evict t)) ∧
      ((∀ t : Station, s.mc.silence[t] ≠ .expired) →
        (snapshotOwed → s.choose = some .snapshot) ∧
        (¬ snapshotOwed → s.choose = match s.hp.queue with
          | r :: _ => some (.request r.tag)
          | [] => if s.mc.presence = .expired then some .presence else none)))

/-- Table 4-3: the body built for each item (R69 to R72): the FOUND flag from cluster-known, the segment of the lowest part
missing from a JOINING entry with the part's current contents, the request's arguments as committed, and for an ABANDON
the generation its arrival record holds, where it is ABANDON QUEUED. The contents of a part are its items as Table 9-1 gives
them (R143): the 16 roster entries, four locks from 4g, four barriers from 4g, eight words from 8g. -/
def Obligations.BodiesBuilt : Prop :=
  (∀ (s : State) (r : Request) (rest : List Request),
    (∀ t, s.buildBody (.evict t) = some (.evict t)) ∧ s.buildBody .resync = some .resync ∧
    s.buildBody .presence = some .presence ∧
    (∀ p : PartNo, (∃ t, s.standing t = .joining ∧ hasPart (s.entry t).installed p = false) →
      (∀ q < p, ∀ t, s.standing t = .joining → hasPart (s.entry t).installed q = true) →
      s.buildBody .snapshot = some (.snapshot (s.tu.content p)) ∧ (s.tu.content p).part = p) ∧
    (s.hp.queue = r :: rest → s.buildBody (.request r.tag) = match r.body with
      | .join => some (.join (!s.au.clusterKnown))
      | .leave => some .leave
      | .claim l => some (.claim l .wait)
      | .tryClaim l => some (.claim l .tryOnce)
      | .release l => some (.release l)
      | .withdraw l => some (.withdraw l)
      | .arrive b count => some (.arrive b count)
      | .abandon b =>
        if (s.arrival b).phase = .abandonQueued then (s.arrival b).generation.map (fun g => .abandon b g) else none
      | .publish v => some (.publish v)
      | .post t k => some (.post t k))) ∧
  (∀ u : TableUnit,
    u.content 0 = .roster u.roster ∧
    (∀ g : Fin 8, u.content ⟨1 + g.val, by omega⟩ = .locks g (Vector.ofFn (fun i : Fin 4 => u.locks[4 * g.val + i.val]))) ∧
    (∀ g : Fin 2, u.content ⟨9 + g.val, by omega⟩ =
      .barriers g (Vector.ofFn (fun i : Fin 4 => u.barriers[4 * g.val + i.val]))) ∧
    (∀ g : Fin 2, u.content ⟨11 + g.val, by omega⟩ =
      .words g (Vector.ofFn (fun i : Fin 8 => u.words[8 * g.val + i.val]))))

/-- At a contention point that lets the station begin (R103), the chosen item's frame is built with the station's number and
order number, the head begins, whose start bit sets the gap count back to 0, the item is in attempt, and the counter is kept
for the counted item alone (R69, R110, R118, R120). No attempt begins with the yield flag or the order hold set, in WATCH
or HALTED, or with no candidate (R90, R103, R110, R116): only the gap count has risen (log 3). An attempt finds the
Acceptance Unit with no frame in hand, and drops one that a port restart left there (log 27). -/
def Obligations.ContentionPoint : Prop :=
  (∀ (s : State) (item : Item) (body : FrameBody), s.resetAsserted = false → s.le.line = .idle →
    s.le.yieldFlag = false → s.au.orderHold = false → s.station ≠ .watch → s.station ≠ .halted →
    s.choose = some item → s.buildBody item = some body →
    exec .contentionPoint s = .next
      { s with
        le := { s.le with line := .contending, gapCount := 0, rxBits := [] }
        au := { s.au with partialFrame := [], heard := none }
        ss :=
          { attempt := some ⟨⟨s.me, s.au.order, body⟩, some item⟩
            counted := some item
            counter := if s.ss.counted = some item then s.ss.counter else 0 }
        hp := { s.hp with queue := match item, s.hp.queue with
          | .request _, r :: rest => { r with inAttempt := true } :: rest
          | _, queue => queue } }) ∧
  (∀ s : State, s.resetAsserted = false → s.le.line = .idle →
    (s.le.yieldFlag = true ∨ s.au.orderHold = true ∨ s.station = .watch ∨ s.station = .halted ∨ s.choose = none) →
    exec .contentionPoint s = .next { s with le := { s.le with gapCount := max s.le.gapCount 12 } })

/-- An ABANDON at the head whose arrival record is not ABANDON QUEUED with a generation is removed and answered TOO LATE
without a frame, its record left as it is, and the choice is made again for the same contention point (R34, R72). It uses
no attempt; that a counted ABANDON so removed makes the counter 0, as R120 says of a request that leaves the queue by any
cause, is the model's reading of R72 beside R120 (log 26). -/
def Obligations.AbandonAnsweredAtBuild : Prop :=
  ∀ (s : State) (b : BarrierNo) (tag : Octet) (m k : Bool) (rest : List Request), s.resetAsserted = false →
    s.le.line = .idle → s.le.yieldFlag = false → s.au.orderHold = false → s.station = .inStep →
    s.hp.queue = ⟨.abandon b, tag, m, k⟩ :: rest → s.choose = some (.request tag) →
    ((s.arrival b).phase ≠ .abandonQueued ∨ (s.arrival b).generation = none) →
    exec .contentionPoint s = exec .contentionPoint
      (State.indicate ⟨.tooLate, tag, 0x08, BitVec.ofNat 8 b.val, 0⟩
        { s with
          hp := { s.hp with queue := rest }
          ss := if s.ss.counted = some (.request tag) then { s.ss with counted := none, counter := 0 } else s.ss })

/-- A failed attempt (R121, R122), at a lawful request queue: the yield flag is set and the counter goes up by 1; below 8
the item stays; the eighth failure removes a request with LINE FAULT, its record returned, and drops a duty; a marked
request is answered CANCELLED in place of either. An attempt whose item an entry into OUTSIDE took away sets the yield flag
and reaches no item (R118, R135). -/
def Obligations.FailedAttempt : Prop :=
  (∀ (s : State) (f : Frame) (i : Item), s.ss.attempt = some ⟨f, some i⟩ → s.requestsLawful = true →
    s.attemptConsistent = true →
    let gone (r : Request) (rest : List Request) (answer : Indication) : State :=
      State.returnRecord r.body (State.indicate answer
        { s with
          le := { s.le with yieldFlag := true }
          ss := ⟨none, none, 0⟩
          hp := { s.hp with queue := rest } })
    (s.ss.counter < 7 → s.hp.queue.any (fun r => r.inAttempt && r.cancelMark) = false → s.failAttempt =
      { s with
        le := { s.le with yieldFlag := true }
        ss := { attempt := none, counted := s.ss.counted, counter := s.ss.counter + 1 }
        hp := { s.hp with queue := s.unmarkedQueue } }) ∧
    (∀ r rest, s.hp.queue = r :: rest → i = .request r.tag → s.ss.counter = 7 → r.cancelMark = false →
      s.failAttempt = gone r rest ⟨.lineFault, r.tag, r.body.kind.code, 0, 0⟩) ∧
    (∀ r rest, s.hp.queue = r :: rest → i = .request r.tag → r.cancelMark = true →
      s.failAttempt = gone r rest ⟨.cancelled, r.tag, r.body.kind.code, 0, 0⟩) ∧
    ((∀ tag, i ≠ .request tag) → s.ss.counter = 7 →
      s.failAttempt = { s with le := { s.le with yieldFlag := true }, ss := ⟨none, none, 0⟩ })) ∧
  (∀ (s : State) (f : Frame), s.ss.attempt = some ⟨f, none⟩ → s.failAttempt =
    { s with
      le := { s.le with yieldFlag := true }
      ss := { s.ss with attempt := none }
      hp := { s.hp with queue := s.unmarkedQueue } })

/-- Losing arbitration to a lower head (R67, R104, R122): the line is released and the winning frame received from the head
bits read so far; counter, counted item and yield flag stay; a marked request is answered CANCELLED. A head that is not
lower, or a Line Engine that is not CONTENDING, loses nothing (log 8, log 12). -/
def Obligations.ArbitrationLost : Prop :=
  ∀ (s : State) (f : Frame) (oi : Option Item) (winner : Octet), s.resetAsserted = false →
    s.ss.attempt = some ⟨f, oi⟩ →
    (s.le.line = .contending → winner.toNat < f.head.toNat →
      let receiving : LineEngine :=
        { s.le with line := .receiving, rxBits := bitsUntilLoss (dataBits winner) (dataBits f.head) }
      (s.hp.queue.any (fun r => r.inAttempt && r.cancelMark) = false → s.requestsLawful = true →
        exec (.lostArbitration winner) s = .next
          { s with
            le := receiving
            ss := { s.ss with attempt := none }
            hp := { s.hp with queue := s.hp.queue.map (fun r => { r with inAttempt := false }) } }) ∧
      (∀ r rest, s.hp.queue = r :: rest → oi = some (.request r.tag) → r.inAttempt = true → r.cancelMark = true →
        s.requestsLawful = true → s.ss.counted = oi →
        exec (.lostArbitration winner) s = .next (State.returnRecord r.body
          (State.indicate ⟨.cancelled, r.tag, r.body.kind.code, 0, 0⟩
            { s with le := receiving, ss := ⟨none, none, 0⟩, hp := { s.hp with queue := rest } })))) ∧
    (s.le.line ≠ .contending ∨ f.head.toNat ≤ winner.toNat → exec (.lostArbitration winner) s = .next s)

/-- A collision (R105) at a bit sent recessive from the head's stop bit on: the attempt fails (Obligations.FailedAttempt),
and the station receives on with the characters complete before the bit, and with the data bits of the collided character up
to and with the bit itself, read dominant. That a CONTENDING station has won its head at such a bit is the model's choice
(log 11), and so is the position as the row's operand (log 12). -/
def Obligations.CollisionTruncates : Prop :=
  ∀ (s : State) (a : Attempt) (n : Nat), s.resetAsserted = false → s.ss.attempt = some a →
    (s.le.line = .contending ∨ s.le.line = .sending) → 9 ≤ n →
    (a.frame.octets.flatMap characterBits)[n]? = some true →
    ∃ t, exec (.collision n) s = .next t ∧ t.ss = s.failAttempt.ss ∧ t.hp = s.failAttempt.hp ∧ t.tu = s.tu ∧
      t.mc = s.mc ∧ t.le.line = .receiving ∧ t.le.yieldFlag = true ∧ t.le.gapCount = s.le.gapCount ∧
      t.au.order = s.au.order ∧ t.au.clusterKnown = s.au.clusterKnown ∧ t.au.orderHold = s.au.orderHold ∧
      t.au.heard = none ∧ ∃ o, a.frame.octets[n / 10]? = some o ∧
      (n % 10 ≠ 9 → t.au.partialFrame = cleanCharacters (a.frame.octets.take (n / 10)) ∧
        t.le.rxBits = ((characterBits o).drop 1).take (n % 10 - 1) ++ [false]) ∧
      (n % 10 = 9 → t.le.rxBits = [] ∧
        t.au.partialFrame = cleanCharacters (a.frame.octets.take (n / 10)) ++ [⟨o, true⟩])

/-- A driver fault (R106), on the line or as an objector that reads no character (R80), halts the station with cause DRIVER
FAULT, and an accepted frame that carries this station's number and that it did not send (R94) with cause DUPLICATE
STATION, the frame not counted (R136). A station that drives nothing finds no driver fault (log 8). -/
def Obligations.HaltingFaults : Prop :=
  (∀ s : State, s.resetAsserted = false →
    (s.driver ≠ .released → exec .driverFault s = .next (s.haltedBy .driverFault)) ∧
    (s.driver = .released → exec .driverFault s = .next s) ∧
    (∀ h, s.inSlotOf h = true → h.objection ≠ .none →
      exec (.slotWindowEnd .nothing) s = .next (s.haltedBy .driverFault))) ∧
  (∀ (s : State) (f : Frame), s.inSlotOf ⟨.good f, .none, false⟩ = true → f.sender = s.me →
    (s.station = .outside ∨ s.station = .joining ∨ s.station = .inStep ∨ s.station = .diverged) →
    exec (.slotWindowEnd .nothing) s = .next (s.haltedBy .duplicateStation))

/-! ## The end of a frame and of its slot -/

/-- The end of a frame (R76 to R78, R88, R100): the sender holds its frame as built and decides nothing; a receiver classes
the frame, and with a stake decides REJECT on a bad check or a malformed frame, and IN STEP alone ORDER on a good frame
behind its number or a JOIN with FOUND. That a CONTENDING station has won its head by the end of its frame is the model's
choice (log 11). -/
def Obligations.FrameEndDecides : Prop :=
  ∀ (s : State) (characters : List Character), s.resetAsserted = false →
    (∀ a, s.ss.attempt = some a → s.le.line = .contending ∨ s.le.line = .sending →
      exec (.frameEnd characters) s = .next
        { s with
          le := { s.le with line := .slot, rxBits := [] }
          au := { s.au with
            partialFrame := cleanCharacters a.frame.octets, heard := some ⟨.good a.frame, .none, true⟩ } }) ∧
    (∀ whole, s.le.line = .receiving → completeFrame characters = some whole →
      let stake := s.station = .joining ∨ s.station = .inStep ∨ s.station = .diverged
      let decided (o : Objection) : Prop := exec (.frameEnd characters) s = .next
        { s with
          le := { s.le with line := .slot, rxBits := [] }
          au := { s.au with partialFrame := whole, heard := some ⟨classify whole, o, false⟩ } }
      (¬ stake → decided .none) ∧
      (stake → classify whole = .badCheck ∨ classify whole = .malformed → decided .reject) ∧
      (∀ f, stake → classify whole = .good f →
        let objects := s.station = .inStep ∧ (32768 ≤ (f.order - s.au.order).toNat ∨ f.body = .join true)
        (objects → decided .order) ∧ (¬ objects → decided .none)))

/-- A frame objected at a station that did not send it is dropped with no effect (R80, R81); only an objector that reads nothing
meets another end (Obligations.HaltingFaults). At its sender, any character but 3Ch fails the attempt (R80, R88, R109;
Obligations.FailedAttempt). -/
def Obligations.ObjectedFrame : Prop :=
  (∀ (s : State) (h : HeardFrame) (seen : SlotSeen), s.inSlotOf h = true → h.own = false → seen ≠ .nothing →
    exec (.slotWindowEnd seen) s = .next s.slotEnded) ∧
  (∀ (s : State) (f : Frame) (o : Octet), s.inSlotOf ⟨.good f, .none, true⟩ = true →
    (o ≠ 0x3C → exec (.slotWindowEnd (.startBit o)) s = .next s.slotEnded.failAttempt) ∧
    exec (.slotWindowEnd .lateDominant) s = .next s.slotEnded.failAttempt)

/-- The sender's own frame objected with ORDER (R89, R90, R122): the order hold and the yield flag are set, the counter is
unchanged, a marked request is answered CANCELLED first; then IN STEP diverges, a JOINING station with a part leaves the
cluster, an OUTSIDE station learns from its FOUND JOIN of a cluster, and the others stay as they are. The outcome of an
attempt whose item an entry into OUTSIDE took away reaches no item (R118). -/
def Obligations.OwnFrameOrdered : Prop :=
  ∀ (s : State) (f : Frame) (oi : Option Item), s.inSlotOf ⟨.good f, .none, true⟩ = true →
    s.ss.attempt = some ⟨f, oi⟩ → s.requestsLawful = true → s.attemptConsistent = true →
    let acts (t : State) : Prop :=
      (s.station = .inStep → exec (.slotWindowEnd (.startBit 0x3C)) s = .next (t.divergedBy .orderObjected)) ∧
      (s.station = .joining → s.tu.installed ≠ 0 → exec (.slotWindowEnd (.startBit 0x3C)) s =
        .next (t.outsideBy .orderObjected t.leaveTag t.discardedBesideLeave)) ∧
      (s.station = .joining → s.tu.installed = 0 → exec (.slotWindowEnd (.startBit 0x3C)) s = .next t) ∧
      (s.station = .diverged → exec (.slotWindowEnd (.startBit 0x3C)) s = .next t) ∧
      (s.station = .outside → exec (.slotWindowEnd (.startBit 0x3C)) s = .next
        { t with au := { t.au with clusterKnown := (f.body == .join true) || s.au.clusterKnown } })
    (s.hp.queue.any (fun r => r.inAttempt && r.cancelMark) = false →
      acts (s.ordered { s.ss with attempt := none } s.unmarkedQueue)) ∧
    (∀ r rest, s.hp.queue = r :: rest → oi = some (.request r.tag) → r.cancelMark = true →
      acts (State.returnRecord r.body (State.indicate ⟨.cancelled, r.tag, r.body.kind.code, 0, 0⟩
        (s.ordered ⟨none, none, 0⟩ rest))))

/-! ## Accepted frames: counting -/

/-- A WATCH, OUTSIDE or DIVERGED station, and a JOINING station with no part installed, tracks a peer's accepted frame (R83,
R85, R86, R93): its order number becomes the frame's number plus 1, whatever the frame carries, cluster-known is set and the
order hold cleared (an EVICT that names it: Obligations.LeaveAndEvictTaken; a SNAPSHOT at a joiner:
Obligations.FirstSegment); a frame it does not have in hand only sets cluster-known. An own frame whose item an entry into
OUTSIDE took away is tracked in the same way, and its attempt ends with the yield flag set and no item reached (R110,
R118). -/
def Obligations.AcceptedFrameTracked : Prop :=
  (∀ (s : State) (h : HeardFrame), s.inSlotOf h = true → h.own = false → h.objection = .none →
    (∀ f, h.classification = .good f → f.sender ≠ s.me ∨ s.station = .watch →
      s.station = .watch ∨ s.station = .outside ∨ (s.station = .diverged ∧ f.body ≠ .evict s.me) ∨
        (s.station = .joining ∧ s.tu.installed = 0 ∧ f.body ≠ .evict s.me ∧ f.body.isSnapshot = false) →
      exec (.slotWindowEnd .nothing) s = .next (s.tracked f)) ∧
    (h.classification = .badCheck ∨ h.classification = .malformed →
      exec (.slotWindowEnd .nothing) s = .next
        { s.slotEnded with au := { s.slotEnded.au with clusterKnown := true } })) ∧
  (∀ (s : State) (f : Frame), s.inSlotOf ⟨.good f, .none, true⟩ = true → s.station = .outside →
    s.ss.attempt = some ⟨f, none⟩ → s.attemptConsistent = true → f.body = .leave ∨ f.body = .presence →
    exec (.slotWindowEnd .nothing) s = .next
      { s.tracked f with
        le := { s.le with line := .idle, gapCount := 0, rxBits := [], yieldFlag := true }
        ss := ⟨none, none, 0⟩ })

/-- An IN STEP station that counts a peer's frame ahead of its number adopts that number plus 1 and enters DIVERGED with cause
AHEAD FRAME, its replica unchanged (R83, R91, R138); a JOINING station with a part installed that counts a peer's frame
not equal to its number leaves the cluster with cause AHEAD FRAME (R85, R92). -/
def Obligations.OutOfStepFrame : Prop :=
  (∀ (s : State) (f : Frame), s.inSlotOf ⟨.good f, .none, false⟩ = true → f.sender ≠ s.me → s.station = .inStep →
    1 ≤ (f.order - s.au.order).toNat → (f.order - s.au.order).toNat ≤ 32767 → f.body ≠ .evict s.me →
    exec (.slotWindowEnd .nothing) s = .next
      (State.divergedBy .aheadFrame (s.tracked f))) ∧
  (∀ (s : State) (f : Frame), s.inSlotOf ⟨.good f, .none, false⟩ = true → f.sender ≠ s.me → s.station = .joining →
    s.tu.installed ≠ 0 → f.order ≠ s.au.order →
    exec (.slotWindowEnd .nothing) s = .next
      (State.outsideBy .aheadFrame s.leaveTag s.discardedBesideLeave (s.tracked f)))

/-! ## Accepted frames: locks -/

/-- An accepted CLAIM of either flavour (R4, R5, R15), at its sender and at every other IN STEP station, and at a JOINING
station that holds the lock's part; one that lacks the part skips the frame (R3, R85). GRANTED carries the claim tag of the sender's
claim record, as Table 1-3 of section 1.8 has it where R4 and R5 say the claim's tag: the two differ where the record follows
another claim or none, and there this is the model's reading (log 20, log 28). -/
def Obligations.ClaimApplied : Prop :=
  ∀ (own : Bool) (tag : Octet) (f : Frame) (s : State) (l : LockNo) (v : Flavour), s.hears own tag f = true →
    f.body = .claim l v →
    let c := s.counted own f
    let k := s.claim l
    let q := (s.lock l).waiters
    let queuedPhase : ClaimPhase := if 0 < k.withdrawals then .withdrawQueued else .waiting
    let ends (t : State) : Prop := exec (.slotWindowEnd .nothing) s = .next t
    (s.holdsPart (1 + l.val / 4) = false → ends c) ∧
    (s.holdsPart (1 + l.val / 4) = true → (s.lock l).lawful = true →
      ((s.lock l).holder = none → ends
        (((c.setLock l ⟨some f.sender, []⟩).setClaimAt own l { k with phase := .held }).indicateAt own
          (.granted k.tag l))) ∧
      ((s.lock l).holder = some f.sender → ends
        ((c.setClaimAt own l { k with phase := .held }).indicateAt own (.refused tag .already (BitVec.ofNat 8 l.val) 0))) ∧
      (f.sender ∈ q → ends
        ((c.setClaimAt own l { k with phase := queuedPhase }).indicateAt own
          (.refused tag .already (BitVec.ofNat 8 l.val) 0))) ∧
      (∀ h, (s.lock l).holder = some h → h ≠ f.sender → f.sender ∉ q →
        (v = .wait → ends
          (((c.setLock l ⟨some h, q ++ [f.sender]⟩).setClaimAt own l { k with phase := queuedPhase }).indicateAt own
            (.waiting tag l (q.length + 1)))) ∧
        (v = .tryOnce → ends
          ((c.setClaimAt own l { k with phase := .none, tag := 0 }).indicateAt own (.notGranted tag l (some h))))))

/-- An accepted RELEASE (R6, R7, R16, R18): the pass-on to the head waiter, GRANTED at the new holder with its claim tag;
REFUSED NOT HOLDER otherwise. A JOINING station that lacks the lock's part skips the frame (R3, R85). -/
def Obligations.ReleaseApplied : Prop :=
  ∀ (own : Bool) (tag : Octet) (f : Frame) (s : State) (l : LockNo), s.hears own tag f = true →
    f.body = .release l →
    let c := s.counted own f
    let k := s.claim l
    let ends (t : State) : Prop := exec (.slotWindowEnd .nothing) s = .next t
    let released (t : State) : State :=
      (t.setClaimAt own l { k with phase := .none, tag := 0 }).indicateAt own (.released tag l)
    (s.holdsPart (1 + l.val / 4) = false → ends c) ∧
    (s.holdsPart (1 + l.val / 4) = true → (s.lock l).lawful = true →
      ((s.lock l).holder = some f.sender →
        ((s.lock l).waiters = [] → ends (released (c.setLock l ⟨none, []⟩))) ∧
        (∀ w rest, (s.lock l).waiters = w :: rest →
          (w ≠ s.me → ends (released (c.setLock l ⟨some w, rest⟩))) ∧
          (w = s.me → own = false ∧ ends
            (((c.setLock l ⟨some w, rest⟩).setClaim l { k with phase := .held }).indicate (.granted k.tag l))))) ∧
      ((s.lock l).holder ≠ some f.sender →
        let refusal : Indication := .refused tag .notHolder (BitVec.ofNat 8 l.val) 0
        (f.sender ∈ (s.lock l).waiters → ends
          ((c.setClaimAt own l
            { k with phase := if 0 < k.withdrawals then .withdrawQueued else .waiting }).indicateAt own refusal)) ∧
        (f.sender ∉ (s.lock l).waiters → ends
          ((c.setClaimAt own l { k with phase := .none, tag := 0 }).indicateAt own refusal))))

/-- An accepted WITHDRAW (R8, R17): the waiter leaves with WITHDRAWN and its claim tag, a holder is answered TOO LATE, and a
station that is neither REFUSED NOT WAITING; the withdrawals queued field goes down by 1 in each case. A JOINING station that
lacks the lock's part skips the frame (R3, R85). -/
def Obligations.WithdrawApplied : Prop :=
  ∀ (own : Bool) (tag : Octet) (f : Frame) (s : State) (l : LockNo), s.hears own tag f = true →
    f.body = .withdraw l →
    let c := s.counted own f
    let k := s.claim l
    let less : ClaimRecord := { k with withdrawals := k.withdrawals - 1 }
    let ends (t : State) : Prop := exec (.slotWindowEnd .nothing) s = .next t
    (s.holdsPart (1 + l.val / 4) = false → ends c) ∧
    (s.holdsPart (1 + l.val / 4) = true → (s.lock l).lawful = true →
      (f.sender ∈ (s.lock l).waiters → ends
        (((c.setLock l ⟨(s.lock l).holder, (s.lock l).waiters.filter (fun w => w != f.sender)⟩).setClaimAt own l
          { less with phase := .none, tag := 0 }).indicateAt own (.withdrawn k.tag l))) ∧
      ((s.lock l).holder = some f.sender → ends
        ((c.setClaimAt own l less).indicateAt own ⟨.tooLate, tag, 0x06, BitVec.ofNat 8 l.val, 0⟩)) ∧
      (f.sender ∉ (s.lock l).waiters → (s.lock l).holder ≠ some f.sender →
        let refusal : Indication := .refused tag .notWaiting (BitVec.ofNat 8 l.val) 0
        (k.phase = .waiting ∨ k.phase = .withdrawQueued → ends
          ((c.setClaimAt own l { less with phase := .none, tag := 0 }).indicateAt own refusal)) ∧
        (k.phase ≠ .waiting → k.phase ≠ .withdrawQueued → ends ((c.setClaimAt own l less).indicateAt own refusal))))

/-! ## Accepted frames: barriers, words, signals -/

/-- An accepted ARRIVE (R26, R27, R35, R36), the cases in their order: ALREADY, the first arrival, MISMATCH, a further
arrival, and the opening, which queues BARRIER OPEN with each arrived station's own tag at that station. A record that an
opening finds neither ARRIVED nor ABANDON QUEUED is not spoken of (log 24). A JOINING station that lacks the barrier's part
skips the frame (R25, R85). -/
def Obligations.ArriveApplied : Prop :=
  ∀ (own : Bool) (tag : Octet) (f : Frame) (s : State) (b : BarrierNo) (count : Nat), s.hears own tag f = true →
    f.body = .arrive b count →
    let c := s.counted own f
    let r := s.barrier b
    let a := s.arrival b
    let code : Octet := BitVec.ofNat 8 b.val
    let settled : ArrivalRecord :=
      { a with generation := some r.generation, phase := if a.phase = .arriveQueued then .arrived else a.phase }
    let set := r.arrived ||| BitVec.twoPow 16 f.sender.val
    let ends (t : State) : Prop := exec (.slotWindowEnd .nothing) s = .next t
    (s.holdsPart (9 + b.val / 4) = false → ends c) ∧
    (s.holdsPart (9 + b.val / 4) = true →
      (hasStation r.arrived f.sender = true → ends
        ((c.setArrivalAt own b settled).indicateAt own (.refused tag .already code 0))) ∧
      (hasStation r.arrived f.sender = false →
        (r.partyCount = 0 → ends
          (((c.setBarrier b ⟨r.generation, count, BitVec.twoPow 16 f.sender.val⟩).setArrivalAt own b settled).indicateAt own
            (.arrived tag b r.generation 1))) ∧
        (r.partyCount ≠ 0 → count ≠ r.partyCount → ends
          ((c.setArrivalAt own b ⟨.none, 0, none⟩).indicateAt own
            (.refused tag .mismatch code (BitVec.ofNat 8 r.partyCount)))) ∧
        (r.partyCount ≠ 0 → count = r.partyCount →
          (stationCount set ≠ r.partyCount → ends
            (((c.setBarrier b ⟨r.generation, r.partyCount, set⟩).setArrivalAt own b settled).indicateAt own
              (.arrived tag b r.generation (stationCount set)))) ∧
          (stationCount set = r.partyCount →
            (hasStation set s.me = false → ends (c.setBarrier b ⟨r.generation + 1, 0, 0⟩)) ∧
            (own = true ∨ (hasStation set s.me = true ∧ (a.phase = .arrived ∨ a.phase = .abandonQueued)) → ends
              (((c.setBarrier b ⟨r.generation + 1, 0, 0⟩).setArrival b ⟨.none, 0, none⟩).indicate
                (.barrierOpen a.tag b r.generation r.partyCount)))))))

/-- An accepted ABANDON (R28, R36): the sender leaves the named generation with ABANDONED and its arrival tag, the barrier
going idle when empty; TOO LATE otherwise. A JOINING station that lacks the barrier's part skips the frame (R25, R85). -/
def Obligations.AbandonApplied : Prop :=
  ∀ (own : Bool) (tag : Octet) (f : Frame) (s : State) (b : BarrierNo) (g : Octet), s.hears own tag f = true →
    f.body = .abandon b g →
    let c := s.counted own f
    let r := s.barrier b
    let set := r.arrived &&& ~~~(BitVec.twoPow 16 f.sender.val)
    let ends (t : State) : Prop := exec (.slotWindowEnd .nothing) s = .next t
    (s.holdsPart (9 + b.val / 4) = false → ends c) ∧
    (s.holdsPart (9 + b.val / 4) = true →
      (g = r.generation → hasStation r.arrived f.sender = true → ends
        (((c.setBarrier b ⟨g, if set = 0 then 0 else r.partyCount, set⟩).setArrivalAt own b ⟨.none, 0, none⟩).indicateAt own
          (.abandoned (s.arrival b).tag b g .applied))) ∧
      (g ≠ r.generation ∨ hasStation r.arrived f.sender = false → ends
        ((c.setArrivalAt own b ⟨.none, 0, none⟩).indicateAt own ⟨.tooLate, tag, 0x08, BitVec.ofNat 8 b.val, 0⟩)))

/-- An accepted PUBLISH (R39, R45): the sender's word is written, PUBLISHED comes first at the sender, and every armed slot
that names the sender and whose condition holds of the new value queues WATCH MATCHED, in ascending slot number, and is
disarmed. A JOINING station that lacks the word's part skips the frame (R38, R85). -/
def Obligations.PublishApplied : Prop :=
  ∀ (own : Bool) (tag : Octet) (f : Frame) (s : State) (v : Word16), s.hears own tag f = true → f.body = .publish v →
    let c := s.counted own f
    let matched (i : SlotNo) : Bool := (s.watch i).armed && (s.watch i).station == f.sender && (s.watch i).holds v
    let records := (if own then [Indication.published tag v] else []) ++
      (allSlots.filter matched).map (fun i => Indication.watchMatched (s.watch i).tag f.sender v)
    (s.holdsPart (11 + f.sender.val / 8) = false → exec (.slotWindowEnd .nothing) s = .next c) ∧
    (s.holdsPart (11 + f.sender.val / 8) = true → exec (.slotWindowEnd .nothing) s = .next
      { c with
        tu := { c.tu with words := c.tu.words.set f.sender v }
        hp := { c.hp.indicateAll records with
          watches := Vector.ofFn (fun i =>
            if matched i then { s.watch i with armed := false, tag := 0 } else s.watch i) } })

/-- An accepted POST (R40): POSTED at the sender, then SIGNAL at the target; REFUSED NOT MEMBER at the sender where the
target is ABSENT. The table is not changed. So at an IN STEP station, and at a JOINING one that holds part 0. -/
def Obligations.PostApplied : Prop :=
  ∀ (own : Bool) (tag : Octet) (f : Frame) (s : State) (target : Station) (k : Octet), s.hears own tag f = true →
    f.body = .post target k →
    let c := s.counted own f
    let number (t : Station) : Octet := BitVec.ofNat 8 t.val
    (s.standing target = .absent → exec (.slotWindowEnd .nothing) s =
      .next (c.indicateAt own ⟨.refused, tag, 0x05, number target, 0⟩)) ∧
    (s.standing target ≠ .absent → exec (.slotWindowEnd .nothing) s =
      .next ((c.indicateAt own ⟨.posted, tag, number target, k, 0⟩).indicateAt (target == s.me)
        ⟨.signal, 0, number f.sender, k, 0⟩))

/-- An IN STEP station, and a JOINING one that holds part 0, counts a peer's PRESENCE, a frame that R61 gives no effect
because its sender is not MEMBER, a LEAVE from an ABSENT station and an EVICT of one (R53, R54), and nothing else comes of
it but the restart of a timer: IN STEP the silence timer of a sender in the roster, JOINING the transfer timer at a
SNAPSHOT (R60, R124). A station's own PRESENCE ends its attempt and restarts the presence timer (R119, R123). A cancel mark
on the request of an accepted attempt changes nothing of the frame's effect, whatever the frame and the station state: TOO
LATE with the request's tag comes last (R122). -/
def Obligations.CountedBesideEffect : Prop :=
  (∀ (s : State) (f : Frame), s.inSlotOf ⟨.good f, .none, false⟩ = true →
    s.station = .inStep ∨ (s.station = .joining ∧ s.holdsPart 0 = true) → f.sender ≠ s.me → f.order = s.au.order →
    f.body = .presence ∨ (s.standing f.sender ≠ .member ∧ f.body ≠ .leave ∧ f.body ≠ .join true ∧ f.body ≠ .join false) ∨
      (f.body = .leave ∧ s.standing f.sender = .absent) ∨
      (∃ gone, f.body = .evict gone ∧ gone ≠ s.me ∧ s.standing gone = .absent) →
    exec (.slotWindowEnd .nothing) s = .next
      { s.counted false f with
        mc := if s.station = .joining then
            if f.body.isSnapshot then { s.mc with transfer := .running 32768 } else s.mc
          else if s.standing f.sender = .absent then s.mc
          else { s.mc with silence := s.mc.silence.set f.sender (.running 32768) } }) ∧
  (∀ (s : State) (f : Frame), s.sentFor .presence f = true → s.station = .inStep ∨ s.station = .joining →
    f.body = .presence → exec (.slotWindowEnd .nothing) s = .next (s.counted true f)) ∧
  (∀ (s t : State) (r : Request) (rest : List Request) (f : Frame), s.hp.queue = r :: rest → r.cancelMark = true →
    { s with hp := { s.hp with queue := { r with cancelMark := false } :: rest } }.sentFor (.request r.tag) f = true →
    exec (.slotWindowEnd .nothing) { s with hp := { s.hp with queue := { r with cancelMark := false } :: rest } } =
      .next t →
    exec (.slotWindowEnd .nothing) s = .next (t.indicate ⟨.tooLate, r.tag, 0x0B, 0, 0⟩))

/-! ## Accepted frames: the roster and the station's own state -/

/-- The station's own accepted JOIN (R50, R52, R139, R140): a FOUND JOIN founds a cluster of one and enters IN STEP, any
other enters JOINING with both timers started. -/
def Obligations.OwnJoinTaken : Prop :=
  ∀ (s : State) (f : Frame) (tag : Octet) (found : Bool), s.inSlotOf ⟨.good f, .none, true⟩ = true →
    s.station = .outside → f.sender = s.me → f.body = .join found → s.hp.queue = [⟨.join, tag, true, false⟩] →
    s.ss.attempt = some ⟨f, some (.request tag)⟩ → s.ss.counted = some (.request tag) →
    let t : State :=
      { s with
        le := { s.le with line := .idle, gapCount := 0, rxBits := [], yieldFlag := true }
        au := ⟨f.order + 1, true, false, [], none⟩
        ss := ⟨none, none, 0⟩
        hp := { s.hp with queue := [] } }
    (found = true → exec (.slotWindowEnd .nothing) s = .next (State.indicate ⟨.state, tag, 3, 0x01, 0⟩
      { t with
        tu := { emptyReplica with
          roster := emptyReplica.roster.set s.me ⟨.member, allPartsSet⟩, installed := allPartsSet }
        mc := { s.mc with
          state := .inStep, presence := .running 4096, transfer := .cleared,
          silence := Vector.replicate 16 .cleared } })) ∧
    (found = false → exec (.slotWindowEnd .nothing) s = .next (State.indicate ⟨.state, tag, 2, 0x02, 0⟩
      { t with
        mc := { s.mc with
          state := .joining, joiningCause := .joined, presence := .running 4096, transfer := .running 32768 } }))

/-- A station's own LEAVE, and an EVICT that names it, in JOINING, IN STEP and DIVERGED (R56, R135): OUTSIDE with cause LEFT
or EVICTED, the replica, the records and the queue discarded, the order number and cluster-known kept. The EVICT is taken
IN STEP, and in JOINING with part 0 installed, where the evictor's entry is MEMBER (where it is not:
Obligations.CountedBesideEffect), and without that test in DIVERGED and in JOINING with no part installed. An EVICT ahead
of an IN STEP station's number takes it to DIVERGED first, and so is taken without the test too (log 15). -/
def Obligations.LeaveAndEvictTaken : Prop :=
  (∀ (s : State) (f : Frame) (tag : Octet), s.sentFor (.request tag) f = true → f.body = .leave →
    s.station = .joining ∨ s.station = .inStep ∨ s.station = .diverged →
    exec (.slotWindowEnd .nothing) s = .next ((s.counted true f).outsideBy .left tag (s.hp.queue.length - 1))) ∧
  (∀ (s : State) (f : Frame), s.inSlotOf ⟨.good f, .none, false⟩ = true → f.sender ≠ s.me → f.body = .evict s.me →
    (s.hearsPeer f = true → exec (.slotWindowEnd .nothing) s =
      .next ((s.counted false f).outsideBy .evicted 0 s.hp.queue.length)) ∧
    (s.station = .diverged ∨ (s.station = .joining ∧ s.tu.installed = 0) → exec (.slotWindowEnd .nothing) s =
      .next ((s.tracked f).outsideBy .evicted 0 s.hp.queue.length)) ∧
    (s.station = .inStep → 1 ≤ (f.order - s.au.order).toNat → (f.order - s.au.order).toNat ≤ 32767 →
      exec (.slotWindowEnd .nothing) s =
        .next (((s.tracked f).divergedBy .aheadFrame).outsideBy .evicted 0 s.hp.queue.length)))

/-- The station's own accepted RESYNC (R30, R56, R139): the installed set is emptied, every applied arrival record becomes
NONE with BARRIER BROKEN naming the station, in ascending barrier number, then STATE; the queue, the claims, the watches
and the stale contents are kept. -/
def Obligations.OwnResyncTaken : Prop :=
  ∀ (s : State) (f : Frame), s.inSlotOf ⟨.good f, .none, true⟩ = true → s.station = .diverged → f.sender = s.me →
    f.body = .resync → s.ss.attempt = some ⟨f, some .resync⟩ → s.attemptConsistent = true →
    let applied (b : BarrierNo) : Bool := (s.arrival b).phase == .arrived ||
      ((s.arrival b).phase == .abandonQueued && (s.arrival b).generation.isSome)
    let records := (allBarriers.filter applied).map (fun b =>
      Indication.barrierBroken (s.arrival b).tag b ((s.arrival b).generation.getD 0) s.me)
    exec (.slotWindowEnd .nothing) s = .next
      { s with
        le := { s.le with line := .idle, gapCount := 0, rxBits := [], yieldFlag := true }
        au := ⟨f.order + 1, true, false, [], none⟩
        tu := { s.tu with installed := 0 }
        mc := { s.mc with
          state := .joining, joiningCause := .resynced, presence := .running 4096, transfer := .running 32768 }
        ss := ⟨none, none, 0⟩
        hp := { s.hp.indicateAll (records ++ [⟨.state, 0, 2, 0x03, 0⟩]) with
          arrivals := Vector.ofFn (fun b => if applied b then ⟨.none, 0, none⟩ else s.arrival b) } }

/-- A peer's JOIN that finds it ABSENT (R49): its entry becomes JOINING with an empty set, and no other part of the table
changes. A peer MEMBER's RESYNC that leaves a MEMBER (R10, R29, R55): its entry becomes JOINING with an empty set, every
barrier at which it had arrived breaks, and locks and words are unchanged. At an IN STEP station PEER JOINED is queued, and
the silence timer of a new peer starts; a JOINING station that holds part 0 queues none (R64), keeps no silence timer (R124),
and skips the barriers of the parts it lacks (R85). -/
def Obligations.PeerBecomesJoining : Prop :=
  (∀ (s : State) (f : Frame) (found : Bool), s.countsPeer f = true → f.body = .join found →
    s.standing f.sender = .absent →
    exec (.slotWindowEnd .nothing) s = .next
      (((s.counted false f).setEntry f.sender ⟨.joining, 0⟩).indicateAt (s.station == .inStep)
        ⟨.peerJoined, 0, BitVec.ofNat 8 f.sender.val, 0x00, 0⟩)) ∧
  (∀ (s : State) (f : Frame), s.hearsPeer f = true → f.body = .resync →
    (∃ t, t ≠ f.sender ∧ s.standing t = .member) →
    let broken (b : BarrierNo) : Bool := s.holdsPart (9 + b.val / 4) && hasStation (s.barrier b).arrived f.sender
    let told (b : BarrierNo) : Bool := broken b && hasStation (s.barrier b).arrived s.me
    let records := (if s.station = .inStep then [Indication.peerJoined f.sender .resync] else []) ++
      (allBarriers.filter told).map (fun b =>
        Indication.barrierBroken (s.arrival b).tag b (s.barrier b).generation f.sender)
    let c := s.counted false f
    exec (.slotWindowEnd .nothing) s = .next
      { c with
        tu := { c.tu with
          roster := s.tu.roster.set f.sender ⟨.joining, 0⟩
          barriers := Vector.ofFn (fun b : BarrierNo =>
            if broken b then ⟨(s.barrier b).generation + 1, 0, 0⟩ else s.barrier b) }
        hp := { c.hp.indicateAll records with
          arrivals := Vector.ofFn (fun b : BarrierNo => if told b then ⟨.none, 0, none⟩ else s.arrival b) } })

/-- The departure of a peer by its LEAVE, by a MEMBER's EVICT of it, or by its own JOIN, where a MEMBER is left (R9, R29,
R51, R53, R54, R57, R58): part by part, the entry, the locks in ascending number, the barriers in ascending number, the
word and its watches; and the indications in that order. So at an IN STEP station, the sender of the EVICT among them
(R119), and at a JOINING station that holds part 0, which skips the parts it lacks, queues no peer indication (R64) and
keeps no silence timer (R124). -/
def Obligations.PeerDeparts : Prop :=
  ∀ (own : Bool) (i : Item) (s : State) (f : Frame) (gone : Station) (peer : Indication) (entry : RosterEntry)
    (timer : Timer),
    (if own then s.hearsSent i f else s.countsPeer f) = true → s.tu.lawful = true → gone ≠ s.me →
    s.standing gone ≠ .absent → (∃ t, t ≠ gone ∧ s.standing t = .member) →
    ((f.body = .leave ∧ gone = f.sender ∧ peer = .peerLeft gone ∧ entry = ⟨.absent, 0⟩ ∧ timer = .cleared) ∨
     (f.body = .evict gone ∧ s.standing f.sender = .member ∧ peer = .peerLost gone f.sender ∧ entry = ⟨.absent, 0⟩ ∧
      timer = .cleared) ∨
     ((f.body = .join true ∨ f.body = .join false) ∧ gone = f.sender ∧ peer = .peerJoined gone .rejoin ∧
      entry = ⟨.joining, 0⟩ ∧ timer = if s.station = .inStep then .running 32768 else .cleared)) →
    let locks (l : LockNo) : Bool := s.holdsPart (1 + l.val / 4)
    let granted (l : LockNo) : Bool :=
      locks l && (s.lock l).holder == some gone && (s.lock l).waiters.head? == some s.me
    let broken (b : BarrierNo) : Bool := s.holdsPart (9 + b.val / 4) && hasStation (s.barrier b).arrived gone
    let told (b : BarrierNo) : Bool := broken b && hasStation (s.barrier b).arrived s.me
    let word := s.holdsPart (11 + gone.val / 8)
    let matched (i : SlotNo) : Bool :=
      word && (s.watch i).armed && (s.watch i).station == gone && (s.watch i).holds 0
    let records := (if s.station = .inStep then [peer] else []) ++
      (allLocks.filter granted).map (fun l => Indication.granted (s.claim l).tag l) ++
      (allBarriers.filter told).map (fun b =>
        Indication.barrierBroken (s.arrival b).tag b (s.barrier b).generation gone) ++
      (allSlots.filter matched).map (fun i => Indication.watchMatched (s.watch i).tag gone 0)
    let c := s.counted own f
    exec (.slotWindowEnd .nothing) s = .next
      { c with
        mc := { c.mc with silence := c.mc.silence.set gone timer }
        tu :=
          { roster := s.tu.roster.set gone entry
            locks := Vector.ofFn (fun l : LockNo =>
              if locks l then
                if (s.lock l).holder = some gone then
                  match (s.lock l).waiters with
                  | [] => ⟨none, []⟩
                  | w :: rest => ⟨some w, rest⟩
                else ⟨(s.lock l).holder, (s.lock l).waiters.filter (fun w => w != gone)⟩
              else s.lock l)
            barriers := Vector.ofFn (fun b : BarrierNo =>
              if broken b then ⟨(s.barrier b).generation + 1, 0, 0⟩ else s.barrier b)
            words := if word then s.tu.words.set gone 0 else s.tu.words
            installed := s.tu.installed }
        hp := { c.hp.indicateAll records with
          claims := Vector.ofFn (fun l : LockNo =>
            if granted l then { s.claim l with phase := .held } else s.claim l)
          arrivals := Vector.ofFn (fun b : BarrierNo => if told b then ⟨.none, 0, none⟩ else s.arrival b)
          watches := Vector.ofFn (fun i : SlotNo =>
            if matched i then { s.watch i with armed := false, tag := 0 } else s.watch i) } }

/-! ## Accepted frames: the snapshot -/

/-- A MEMBER's SNAPSHOT of part p at an IN STEP station, its sender among them (R119, R147, R148, R150): every JOINING entry
that lacks p gains it and becomes MEMBER when complete, with PEER IN STEP in ascending station number; the content has no
effect. At a JOINING station that holds p the same, without PEER IN STEP (R64), and its transfer timer starts again (R60). -/
def Obligations.SnapshotAtInStep : Prop :=
  ∀ (own : Bool) (i : Item) (s : State) (f : Frame) (content : PartContent), s.hearsFor own i f = true →
    f.body = .snapshot content → s.station = .inStep ∨ s.holdsPart content.part.val = true →
    let gains (t : Station) : Bool :=
      s.standing t == .joining && !((s.entry t).installed.getLsbD content.part.val)
    let after (t : Station) : PartSet := (s.entry t).installed ||| BitVec.twoPow 13 content.part.val
    let completes (t : Station) : Bool := gains t && after t == allPartsSet
    let c := s.counted own f
    exec (.slotWindowEnd .nothing) s = .next
      { c with
        mc := if s.station = .joining then { c.mc with transfer := .running 32768 } else c.mc
        tu := { c.tu with roster := Vector.ofFn (fun t : Station =>
          if completes t then ⟨.member, allPartsSet⟩ else if gains t then ⟨.joining, after t⟩ else s.entry t) }
        hp := c.hp.indicateAll
          (if s.station = .inStep then (allStations.filter completes).map Indication.peerInStep else []) }

/-- The install of a part other than 0 at a JOINING station that lacks it (R22, R45, R141, R147, R149): the content replaces
the part and no other, the part is added to the local installed set, the late GRANTED indications of a lock part or the
WATCH MATCHED indications of a status part are queued, a matched slot is disarmed, and a complete set takes the station to
IN STEP with its joining cause, the STATE last and the transfer timer cleared. The claim records of other parts' locks, the
rest of the Host Port and the Send Selector are as before, and the Line Engine is back in IDLE (a lock part's own claim
records: Obligations.LockPartReconciled). -/
def Obligations.JoinerInstallsPart : Prop :=
  ∀ (s : State) (f : Frame) (content : PartContent), s.hearsPeer f = true → s.station = .joining →
    f.body = .snapshot content → content.part ≠ 0 → s.holdsPart content.part.val = false →
    let installed := s.tu.installed ||| BitVec.twoPow 13 content.part.val
    ∃ t, exec (.slotWindowEnd .nothing) s = .next t ∧ t.tu.installed = installed ∧
      t.tu.content content.part = content ∧
      (∀ q : PartNo, q ≠ 0 → q ≠ content.part → t.tu.content q = s.tu.content q) ∧
      (∀ k : Station, t.entry k = (s.entry k).gain content.part) ∧
      t.au = ⟨s.au.order + 1, true, false, [], none⟩ ∧ t.le = ⟨.idle, 0, s.le.yieldFlag, []⟩ ∧ t.ss = s.ss ∧
      t = { s with
        le := t.le, au := t.au, tu := t.tu
        mc := { s.mc with
          state := t.mc.state, presence := t.mc.presence, transfer := t.mc.transfer, silence := t.mc.silence }
        hp := { s.hp with
          indications := t.hp.indications, overrun := t.hp.overrun, claims := t.hp.claims, watches := t.hp.watches } } ∧
      (∀ l : LockNo, 1 + l.val / 4 ≠ content.part.val → t.claim l = s.claim l) ∧
      t.hp.indications = (s.hp.indicateAll (s.joinerReports content)).indications ∧
      t.hp.overrun = (s.hp.indicateAll (s.joinerReports content)).overrun ∧
      (∀ i : SlotNo, t.watch i =
        if content.matched (s.watch i) then { s.watch i with armed := false, tag := 0 } else s.watch i) ∧
      (installed ≠ allPartsSet → t.station = .joining ∧ t.mc.transfer = .running 32768 ∧
        t.mc.presence = s.mc.presence ∧ t.mc.silence = s.mc.silence) ∧
      (installed = allPartsSet → t.station = .inStep ∧ t.mc.transfer = .cleared ∧ t.mc.presence = .running 4096 ∧
        (∀ k : Station, t.mc.silence[k] =
          if k ≠ s.me ∧ t.standing k ≠ .absent then .running 32768 else .cleared))

/-- Reconciliation at the install of a lock part (R22): of the part's four locks, a record WAITING or WITHDRAW QUEUED becomes
HELD with its tag kept where the installed holder is this station, NONE where the station stands nowhere, and every other
record is left as it is. A late GRANTED with the claim tag is queued for each lock that becomes HELD, in ascending lock
number, and nothing for a record that becomes NONE; a STATE, where the set is complete, comes after them. -/
def Obligations.LockPartReconciled : Prop :=
  ∀ (s : State) (f : Frame) (g : Fin 8) (records : Vector LockRecord 4), s.hearsPeer f = true → s.station = .joining →
    f.body = .snapshot (.locks g records) → s.holdsPart (1 + g.val) = false →
    let late := ([0, 1, 2, 3] : List (Fin 4)).filterMap (fun i =>
      let l : LockNo := ⟨4 * g.val + i.val, by omega⟩
      if s.awaits l && records[i].holder == some s.me then some (Indication.granted (s.claim l).tag l) else none)
    let state := if s.tu.installed ||| BitVec.twoPow 13 (1 + g.val) = allPartsSet then
      [Indication.state .inStep s.mc.joiningCause.cause 0 0] else []
    ∃ t, exec (.slotWindowEnd .nothing) s = .next t ∧
      t.hp.indications = (s.hp.indicateAll (late ++ state)).indications ∧
      t.hp.overrun = (s.hp.indicateAll (late ++ state)).overrun ∧
      (∀ i : Fin 4,
        let l : LockNo := ⟨4 * g.val + i.val, by omega⟩
        t.lock l = records[i] ∧
        (s.awaits l = true → records[i].holder = some s.me → t.claim l = { s.claim l with phase := .held }) ∧
        (s.awaits l = true → records[i].holder ≠ some s.me → s.me ∉ records[i].waiters →
          t.claim l = { s.claim l with phase := .none, tag := 0 }) ∧
        (s.awaits l = false ∨ (records[i].holder ≠ some s.me ∧ s.me ∈ records[i].waiters) → t.claim l = s.claim l)) ∧
      (∀ k : LockNo, k.val / 4 ≠ g.val → t.lock k = s.lock k ∧ t.claim k = s.claim k)

/-- The first segment at a JOINING station with no part installed (R146, R147, R149, R151): a part 0 whose content shows its
sender MEMBER is installed, with its own effect on the roster, where it shows the station JOINING with an empty set, and
otherwise takes the station OUTSIDE with cause CLUSTER LOST; any other part is tracked. -/
def Obligations.FirstSegment : Prop :=
  ∀ (s : State) (f : Frame) (content : PartContent), s.inSlotOf ⟨.good f, .none, false⟩ = true →
    s.station = .joining → s.tu.installed = 0 → f.sender ≠ s.me → f.body = .snapshot content →
    let tracked : State := { s.tracked f with mc := { s.mc with transfer := .running 32768 } }
    (content.part ≠ 0 → exec (.slotWindowEnd .nothing) s = .next tracked) ∧
    (∀ entries : Vector RosterEntry 16, content = .roster entries →
      (entries[f.sender].standing ≠ .member → exec (.slotWindowEnd .nothing) s = .next tracked) ∧
      (entries[f.sender].standing = .member → entries[s.me] = ⟨.joining, 0⟩ →
        (∀ k : Station, entries[k].lawful = true) →
        exec (.slotWindowEnd .nothing) s = .next
          { tracked with tu := { s.tu with
            roster := entries.map (fun e => if e.standing = .joining ∧ e.installed.getLsbD 0 = false then
              (if e.installed ||| 1 = allPartsSet then ⟨.member, allPartsSet⟩ else ⟨.joining, e.installed ||| 1⟩) else e)
            installed := 1 } }) ∧
      (entries[f.sender].standing = .member → entries[s.me] ≠ ⟨.joining, 0⟩ →
        exec (.slotWindowEnd .nothing) s = .next (State.outsideBy .clusterLost s.leaveTag s.discardedBesideLeave
          { tracked with au := ⟨f.order + 1, false, false, [], none⟩ })))

/-! ## The frame codec -/

/-- Every well-formed frame, sent and read undisturbed, is complete at its last octet and no sooner, and is classed good with
exactly its fields (R65 to R68, R73 to R76, R178, R179): no bit of an encoding is dropped. Its length is that of Table 4-1,
5 to 75 octets (R66). -/
def Obligations.FrameRoundTrip : Prop :=
  (∀ (f : Frame), f.lawful = true →
    completeFrame (cleanCharacters f.octets) = some (cleanCharacters f.octets) ∧
    (∀ n < f.octets.length, completeFrame (cleanCharacters (f.octets.take n)) = none) ∧
    classify (cleanCharacters f.octets) = .good f) ∧
  (∀ f : Frame, f.lawful = true → 5 ≤ f.octets.length ∧ f.octets.length ≤ 75 ∧
    (f.octets.length = match f.body with
      | .evict _ => 6
      | .leave => 5
      | .resync => 5
      | .join _ => 6
      | .release _ => 6
      | .withdraw _ => 6
      | .claim _ _ => 6
      | .abandon _ _ => 7
      | .arrive _ _ => 7
      | .publish _ => 7
      | .post _ _ => 7
      | .snapshot (.roster _) => 55
      | .snapshot (.locks _ ls) => 15 + (ls.toList.map (fun l => l.waiters.length)).sum
      | .snapshot (.barriers _ _) => 23
      | .snapshot (.words _ _) => 23
      | .presence => 5))

/-- What is classed good was sent well formed: the octets read are those of the frame it is classed as, and its fields are in
their ranges (R73 to R76). -/
def Obligations.GoodFramesAreEncoded : Prop :=
  ∀ (characters : List Character) (f : Frame), completeFrame characters = some characters →
    classify characters = .good f → characters = cleanCharacters f.octets ∧ f.lawful = true

/-! ## The invariants -/

/-- Every step keeps at most 16 indication records, and the read position at kind whenever the queue is empty (R165, R166); and
it keeps the request queue lawful (R159): at most 8 requests, none with tag 0, no two with one tag, none but the head in
attempt. -/
def Obligations.QueuesStayLawful : Prop :=
  (∀ s t : State, s.indicationsBounded = true → step s = .next t → t.indicationsBounded = true) ∧
  (∀ s t : State, s.requestsLawful = true → step s = .next t → t.requestsLawful = true)

/-- Every step keeps the laws of the lock, barrier and roster records (R1, R23, R46), whatever frames are read. -/
def Obligations.ReplicaStaysLawful : Prop :=
  ∀ s t : State, s.replicaLawful = true → step s = .next t → t.replicaLawful = true

/-- Every step keeps the station's queue, line, attempt and replica in agreement with its state (R47, R59, R114, R118, R138,
R144): among them, an IN STEP station's own entry is MEMBER with every part installed, a JOINING station's own entry shows
its local installed set, and a station outside the cluster holds no part. And it makes only the transitions of Table 8-2
(R129). -/
def Obligations.LifeStaysConsistent : Prop :=
  (∀ s t : State, s.lifeConsistent = true → step s = .next t → t.lifeConsistent = true) ∧
  (∀ s t : State, s.lifeConsistent = true → step s = .next t → s.station.mayBecome t.station = true)

/-- While a station stays IN STEP, its replica and every frame and request that can change it lawful, every station the
replica names as holder, waiter or arrived is in its roster (R57). -/
def Obligations.NamedStationsListed : Prop :=
  ∀ s t : State, s.lifeConsistent = true → s.replicaLawful = true → s.station = .inStep → s.namesListed = true →
    step s = .next t → t.station = .inStep → t.namesListed = true

/-- No command but the counting of an accepted frame changes the order number (R82), resets apart, and there it becomes the
number of the frame in the slot plus 1, or stays. No command but the end of a slot changes the cluster table, but for an
entry that discards it (scope section 2: "The cluster table changes only through frames on this line"). -/
def Obligations.WhatFramesAloneChange : Prop :=
  (∀ (c : Instr) (s t : State), exec c s = .next t → (∀ n b, c ≠ .powerOnReset n b) →
    ((∀ o, c ≠ .restart o) → (∀ o, c ≠ .clearOverrun o) → (∀ o, c ≠ .rewind o) → (∀ seen, c ≠ .slotWindowEnd seen) →
      t.au.order = s.au.order) ∧
    (∀ seen, c = .slotWindowEnd seen → t.au.order = s.au.order ∨
      ∃ h f, s.au.heard = some h ∧ h.classification = .good f ∧ seen = .nothing ∧ t.au.order = f.order + 1)) ∧
  (∀ (c : Instr) (s t : State), exec c s = .next t → (∀ seen, c ≠ .slotWindowEnd seen) →
    t.tu = s.tu ∨ (t.tu = emptyReplica ∧ (t.station = .watch ∨ t.station = .outside ∨ t.station = .halted)))
end

