-- ==== Sys2Proof/Laws/State.lean ====
section
/-!
SUPPORT. One lemma for each field and each update of the state: what an update leaves unchanged, and what it sets.
-/

namespace Sys2Proof.Machine

/-! ## The block updates -/

section
variable (f : LineEngine → LineEngine) (s : State)
@[simp] theorem State.onLe_straps : (s.onLe f).straps = s.straps := rfl
@[simp] theorem State.onLe_resetAsserted : (s.onLe f).resetAsserted = s.resetAsserted := rfl
@[simp] theorem State.onLe_le : (s.onLe f).le = f s.le := rfl
@[simp] theorem State.onLe_au : (s.onLe f).au = s.au := rfl
@[simp] theorem State.onLe_tu : (s.onLe f).tu = s.tu := rfl
@[simp] theorem State.onLe_mc : (s.onLe f).mc = s.mc := rfl
@[simp] theorem State.onLe_ss : (s.onLe f).ss = s.ss := rfl
@[simp] theorem State.onLe_hp : (s.onLe f).hp = s.hp := rfl
@[simp] theorem State.onLe_hostData : (s.onLe f).hostData = s.hostData := rfl
@[simp] theorem State.onLe_pending : (s.onLe f).pending = s.pending := rfl
@[simp] theorem State.onLe_station : (s.onLe f).station = s.station := rfl
@[simp] theorem State.onLe_me : (s.onLe f).me = s.me := rfl
end

section
variable (f : AcceptanceUnit → AcceptanceUnit) (s : State)
@[simp] theorem State.onAu_straps : (s.onAu f).straps = s.straps := rfl
@[simp] theorem State.onAu_resetAsserted : (s.onAu f).resetAsserted = s.resetAsserted := rfl
@[simp] theorem State.onAu_le : (s.onAu f).le = s.le := rfl
@[simp] theorem State.onAu_au : (s.onAu f).au = f s.au := rfl
@[simp] theorem State.onAu_tu : (s.onAu f).tu = s.tu := rfl
@[simp] theorem State.onAu_mc : (s.onAu f).mc = s.mc := rfl
@[simp] theorem State.onAu_ss : (s.onAu f).ss = s.ss := rfl
@[simp] theorem State.onAu_hp : (s.onAu f).hp = s.hp := rfl
@[simp] theorem State.onAu_hostData : (s.onAu f).hostData = s.hostData := rfl
@[simp] theorem State.onAu_pending : (s.onAu f).pending = s.pending := rfl
@[simp] theorem State.onAu_station : (s.onAu f).station = s.station := rfl
@[simp] theorem State.onAu_me : (s.onAu f).me = s.me := rfl
end

section
variable (f : TableUnit → TableUnit) (s : State)
@[simp] theorem State.onTu_straps : (s.onTu f).straps = s.straps := rfl
@[simp] theorem State.onTu_resetAsserted : (s.onTu f).resetAsserted = s.resetAsserted := rfl
@[simp] theorem State.onTu_le : (s.onTu f).le = s.le := rfl
@[simp] theorem State.onTu_au : (s.onTu f).au = s.au := rfl
@[simp] theorem State.onTu_tu : (s.onTu f).tu = f s.tu := rfl
@[simp] theorem State.onTu_mc : (s.onTu f).mc = s.mc := rfl
@[simp] theorem State.onTu_ss : (s.onTu f).ss = s.ss := rfl
@[simp] theorem State.onTu_hp : (s.onTu f).hp = s.hp := rfl
@[simp] theorem State.onTu_hostData : (s.onTu f).hostData = s.hostData := rfl
@[simp] theorem State.onTu_pending : (s.onTu f).pending = s.pending := rfl
@[simp] theorem State.onTu_station : (s.onTu f).station = s.station := rfl
@[simp] theorem State.onTu_me : (s.onTu f).me = s.me := rfl
end

section
variable (f : MembershipController → MembershipController) (s : State)
@[simp] theorem State.onMc_straps : (s.onMc f).straps = s.straps := rfl
@[simp] theorem State.onMc_resetAsserted : (s.onMc f).resetAsserted = s.resetAsserted := rfl
@[simp] theorem State.onMc_le : (s.onMc f).le = s.le := rfl
@[simp] theorem State.onMc_au : (s.onMc f).au = s.au := rfl
@[simp] theorem State.onMc_tu : (s.onMc f).tu = s.tu := rfl
@[simp] theorem State.onMc_mc : (s.onMc f).mc = f s.mc := rfl
@[simp] theorem State.onMc_ss : (s.onMc f).ss = s.ss := rfl
@[simp] theorem State.onMc_hp : (s.onMc f).hp = s.hp := rfl
@[simp] theorem State.onMc_hostData : (s.onMc f).hostData = s.hostData := rfl
@[simp] theorem State.onMc_pending : (s.onMc f).pending = s.pending := rfl
@[simp] theorem State.onMc_station : (s.onMc f).station = (f s.mc).state := rfl
@[simp] theorem State.onMc_me : (s.onMc f).me = s.me := rfl
end

section
variable (f : SendSelector → SendSelector) (s : State)
@[simp] theorem State.onSs_straps : (s.onSs f).straps = s.straps := rfl
@[simp] theorem State.onSs_resetAsserted : (s.onSs f).resetAsserted = s.resetAsserted := rfl
@[simp] theorem State.onSs_le : (s.onSs f).le = s.le := rfl
@[simp] theorem State.onSs_au : (s.onSs f).au = s.au := rfl
@[simp] theorem State.onSs_tu : (s.onSs f).tu = s.tu := rfl
@[simp] theorem State.onSs_mc : (s.onSs f).mc = s.mc := rfl
@[simp] theorem State.onSs_ss : (s.onSs f).ss = f s.ss := rfl
@[simp] theorem State.onSs_hp : (s.onSs f).hp = s.hp := rfl
@[simp] theorem State.onSs_hostData : (s.onSs f).hostData = s.hostData := rfl
@[simp] theorem State.onSs_pending : (s.onSs f).pending = s.pending := rfl
@[simp] theorem State.onSs_station : (s.onSs f).station = s.station := rfl
@[simp] theorem State.onSs_me : (s.onSs f).me = s.me := rfl
end

section
variable (f : HostPort → HostPort) (s : State)
@[simp] theorem State.onHp_straps : (s.onHp f).straps = s.straps := rfl
@[simp] theorem State.onHp_resetAsserted : (s.onHp f).resetAsserted = s.resetAsserted := rfl
@[simp] theorem State.onHp_le : (s.onHp f).le = s.le := rfl
@[simp] theorem State.onHp_au : (s.onHp f).au = s.au := rfl
@[simp] theorem State.onHp_tu : (s.onHp f).tu = s.tu := rfl
@[simp] theorem State.onHp_mc : (s.onHp f).mc = s.mc := rfl
@[simp] theorem State.onHp_ss : (s.onHp f).ss = s.ss := rfl
@[simp] theorem State.onHp_hp : (s.onHp f).hp = f s.hp := rfl
@[simp] theorem State.onHp_hostData : (s.onHp f).hostData = s.hostData := rfl
@[simp] theorem State.onHp_pending : (s.onHp f).pending = s.pending := rfl
@[simp] theorem State.onHp_station : (s.onHp f).station = s.station := rfl
@[simp] theorem State.onHp_me : (s.onHp f).me = s.me := rfl
end

/-! ## The named operations: the blocks they leave -/

section
variable (r : Indication) (s : State)
@[simp] theorem State.indicate_straps : (s.indicate r).straps = s.straps := rfl
@[simp] theorem State.indicate_resetAsserted : (s.indicate r).resetAsserted = s.resetAsserted := rfl
@[simp] theorem State.indicate_le : (s.indicate r).le = s.le := rfl
@[simp] theorem State.indicate_au : (s.indicate r).au = s.au := rfl
@[simp] theorem State.indicate_tu : (s.indicate r).tu = s.tu := rfl
@[simp] theorem State.indicate_mc : (s.indicate r).mc = s.mc := rfl
@[simp] theorem State.indicate_ss : (s.indicate r).ss = s.ss := rfl
@[simp] theorem State.indicate_hostData : (s.indicate r).hostData = s.hostData := rfl
@[simp] theorem State.indicate_pending : (s.indicate r).pending = s.pending := rfl
@[simp] theorem State.indicate_station : (s.indicate r).station = s.station := rfl
@[simp] theorem State.indicate_me : (s.indicate r).me = s.me := rfl
end

section
variable (l : LockNo) (c : ClaimRecord) (s : State)
@[simp] theorem State.setClaim_straps : (s.setClaim l c).straps = s.straps := rfl
@[simp] theorem State.setClaim_resetAsserted : (s.setClaim l c).resetAsserted = s.resetAsserted := rfl
@[simp] theorem State.setClaim_le : (s.setClaim l c).le = s.le := rfl
@[simp] theorem State.setClaim_au : (s.setClaim l c).au = s.au := rfl
@[simp] theorem State.setClaim_tu : (s.setClaim l c).tu = s.tu := rfl
@[simp] theorem State.setClaim_mc : (s.setClaim l c).mc = s.mc := rfl
@[simp] theorem State.setClaim_ss : (s.setClaim l c).ss = s.ss := rfl
@[simp] theorem State.setClaim_hostData : (s.setClaim l c).hostData = s.hostData := rfl
@[simp] theorem State.setClaim_pending : (s.setClaim l c).pending = s.pending := rfl
@[simp] theorem State.setClaim_station : (s.setClaim l c).station = s.station := rfl
@[simp] theorem State.setClaim_me : (s.setClaim l c).me = s.me := rfl
@[simp] theorem State.setClaim_hp_requestA : (s.setClaim l c).hp.requestA = s.hp.requestA := rfl
@[simp] theorem State.setClaim_hp_requestB : (s.setClaim l c).hp.requestB = s.hp.requestB := rfl
@[simp] theorem State.setClaim_hp_requestC : (s.setClaim l c).hp.requestC = s.hp.requestC := rfl
@[simp] theorem State.setClaim_hp_requestD : (s.setClaim l c).hp.requestD = s.hp.requestD := rfl
@[simp] theorem State.setClaim_hp_answerA : (s.setClaim l c).hp.answerA = s.hp.answerA := rfl
@[simp] theorem State.setClaim_hp_answerB : (s.setClaim l c).hp.answerB = s.hp.answerB := rfl
@[simp] theorem State.setClaim_hp_answerC : (s.setClaim l c).hp.answerC = s.hp.answerC := rfl
@[simp] theorem State.setClaim_hp_answerD : (s.setClaim l c).hp.answerD = s.hp.answerD := rfl
@[simp] theorem State.setClaim_hp_commitResult : (s.setClaim l c).hp.commitResult = s.hp.commitResult := rfl
@[simp] theorem State.setClaim_hp_queue : (s.setClaim l c).hp.queue = s.hp.queue := rfl
@[simp] theorem State.setClaim_hp_indications : (s.setClaim l c).hp.indications = s.hp.indications := rfl
@[simp] theorem State.setClaim_hp_readPos : (s.setClaim l c).hp.readPos = s.hp.readPos := rfl
@[simp] theorem State.setClaim_hp_overrun : (s.setClaim l c).hp.overrun = s.hp.overrun := rfl
@[simp] theorem State.setClaim_hp_irqPending : (s.setClaim l c).hp.irqPending = s.hp.irqPending := rfl
@[simp] theorem State.setClaim_hp_irqOverrun : (s.setClaim l c).hp.irqOverrun = s.hp.irqOverrun := rfl
@[simp] theorem State.setClaim_hp_arrivals : (s.setClaim l c).hp.arrivals = s.hp.arrivals := rfl
@[simp] theorem State.setClaim_hp_watches : (s.setClaim l c).hp.watches = s.hp.watches := rfl
end

section
variable (b : BarrierNo) (a : ArrivalRecord) (s : State)
@[simp] theorem State.setArrival_straps : (s.setArrival b a).straps = s.straps := rfl
@[simp] theorem State.setArrival_resetAsserted : (s.setArrival b a).resetAsserted = s.resetAsserted := rfl
@[simp] theorem State.setArrival_le : (s.setArrival b a).le = s.le := rfl
@[simp] theorem State.setArrival_au : (s.setArrival b a).au = s.au := rfl
@[simp] theorem State.setArrival_tu : (s.setArrival b a).tu = s.tu := rfl
@[simp] theorem State.setArrival_mc : (s.setArrival b a).mc = s.mc := rfl
@[simp] theorem State.setArrival_ss : (s.setArrival b a).ss = s.ss := rfl
@[simp] theorem State.setArrival_hostData : (s.setArrival b a).hostData = s.hostData := rfl
@[simp] theorem State.setArrival_pending : (s.setArrival b a).pending = s.pending := rfl
@[simp] theorem State.setArrival_station : (s.setArrival b a).station = s.station := rfl
@[simp] theorem State.setArrival_me : (s.setArrival b a).me = s.me := rfl
@[simp] theorem State.setArrival_hp_requestA : (s.setArrival b a).hp.requestA = s.hp.requestA := rfl
@[simp] theorem State.setArrival_hp_requestB : (s.setArrival b a).hp.requestB = s.hp.requestB := rfl
@[simp] theorem State.setArrival_hp_requestC : (s.setArrival b a).hp.requestC = s.hp.requestC := rfl
@[simp] theorem State.setArrival_hp_requestD : (s.setArrival b a).hp.requestD = s.hp.requestD := rfl
@[simp] theorem State.setArrival_hp_answerA : (s.setArrival b a).hp.answerA = s.hp.answerA := rfl
@[simp] theorem State.setArrival_hp_answerB : (s.setArrival b a).hp.answerB = s.hp.answerB := rfl
@[simp] theorem State.setArrival_hp_answerC : (s.setArrival b a).hp.answerC = s.hp.answerC := rfl
@[simp] theorem State.setArrival_hp_answerD : (s.setArrival b a).hp.answerD = s.hp.answerD := rfl
@[simp] theorem State.setArrival_hp_commitResult : (s.setArrival b a).hp.commitResult = s.hp.commitResult := rfl
@[simp] theorem State.setArrival_hp_queue : (s.setArrival b a).hp.queue = s.hp.queue := rfl
@[simp] theorem State.setArrival_hp_indications : (s.setArrival b a).hp.indications = s.hp.indications := rfl
@[simp] theorem State.setArrival_hp_readPos : (s.setArrival b a).hp.readPos = s.hp.readPos := rfl
@[simp] theorem State.setArrival_hp_overrun : (s.setArrival b a).hp.overrun = s.hp.overrun := rfl
@[simp] theorem State.setArrival_hp_irqPending : (s.setArrival b a).hp.irqPending = s.hp.irqPending := rfl
@[simp] theorem State.setArrival_hp_irqOverrun : (s.setArrival b a).hp.irqOverrun = s.hp.irqOverrun := rfl
@[simp] theorem State.setArrival_hp_claims : (s.setArrival b a).hp.claims = s.hp.claims := rfl
@[simp] theorem State.setArrival_hp_watches : (s.setArrival b a).hp.watches = s.hp.watches := rfl
end

section
variable (i : SlotNo) (w : WatchSlot) (s : State)
@[simp] theorem State.setWatch_straps : (s.setWatch i w).straps = s.straps := rfl
@[simp] theorem State.setWatch_resetAsserted : (s.setWatch i w).resetAsserted = s.resetAsserted := rfl
@[simp] theorem State.setWatch_le : (s.setWatch i w).le = s.le := rfl
@[simp] theorem State.setWatch_au : (s.setWatch i w).au = s.au := rfl
@[simp] theorem State.setWatch_tu : (s.setWatch i w).tu = s.tu := rfl
@[simp] theorem State.setWatch_mc : (s.setWatch i w).mc = s.mc := rfl
@[simp] theorem State.setWatch_ss : (s.setWatch i w).ss = s.ss := rfl
@[simp] theorem State.setWatch_hostData : (s.setWatch i w).hostData = s.hostData := rfl
@[simp] theorem State.setWatch_pending : (s.setWatch i w).pending = s.pending := rfl
@[simp] theorem State.setWatch_station : (s.setWatch i w).station = s.station := rfl
@[simp] theorem State.setWatch_me : (s.setWatch i w).me = s.me := rfl
@[simp] theorem State.setWatch_hp_requestA : (s.setWatch i w).hp.requestA = s.hp.requestA := rfl
@[simp] theorem State.setWatch_hp_requestB : (s.setWatch i w).hp.requestB = s.hp.requestB := rfl
@[simp] theorem State.setWatch_hp_requestC : (s.setWatch i w).hp.requestC = s.hp.requestC := rfl
@[simp] theorem State.setWatch_hp_requestD : (s.setWatch i w).hp.requestD = s.hp.requestD := rfl
@[simp] theorem State.setWatch_hp_answerA : (s.setWatch i w).hp.answerA = s.hp.answerA := rfl
@[simp] theorem State.setWatch_hp_answerB : (s.setWatch i w).hp.answerB = s.hp.answerB := rfl
@[simp] theorem State.setWatch_hp_answerC : (s.setWatch i w).hp.answerC = s.hp.answerC := rfl
@[simp] theorem State.setWatch_hp_answerD : (s.setWatch i w).hp.answerD = s.hp.answerD := rfl
@[simp] theorem State.setWatch_hp_commitResult : (s.setWatch i w).hp.commitResult = s.hp.commitResult := rfl
@[simp] theorem State.setWatch_hp_queue : (s.setWatch i w).hp.queue = s.hp.queue := rfl
@[simp] theorem State.setWatch_hp_indications : (s.setWatch i w).hp.indications = s.hp.indications := rfl
@[simp] theorem State.setWatch_hp_readPos : (s.setWatch i w).hp.readPos = s.hp.readPos := rfl
@[simp] theorem State.setWatch_hp_overrun : (s.setWatch i w).hp.overrun = s.hp.overrun := rfl
@[simp] theorem State.setWatch_hp_irqPending : (s.setWatch i w).hp.irqPending = s.hp.irqPending := rfl
@[simp] theorem State.setWatch_hp_irqOverrun : (s.setWatch i w).hp.irqOverrun = s.hp.irqOverrun := rfl
@[simp] theorem State.setWatch_hp_claims : (s.setWatch i w).hp.claims = s.hp.claims := rfl
@[simp] theorem State.setWatch_hp_arrivals : (s.setWatch i w).hp.arrivals = s.hp.arrivals := rfl
end

section
variable (r : CommitResult) (a b c d : Octet) (s : State)
@[simp] theorem State.answer_straps : (s.answer r a b c d).straps = s.straps := rfl
@[simp] theorem State.answer_resetAsserted : (s.answer r a b c d).resetAsserted = s.resetAsserted := rfl
@[simp] theorem State.answer_le : (s.answer r a b c d).le = s.le := rfl
@[simp] theorem State.answer_au : (s.answer r a b c d).au = s.au := rfl
@[simp] theorem State.answer_tu : (s.answer r a b c d).tu = s.tu := rfl
@[simp] theorem State.answer_mc : (s.answer r a b c d).mc = s.mc := rfl
@[simp] theorem State.answer_ss : (s.answer r a b c d).ss = s.ss := rfl
@[simp] theorem State.answer_hostData : (s.answer r a b c d).hostData = s.hostData := rfl
@[simp] theorem State.answer_pending : (s.answer r a b c d).pending = s.pending := rfl
@[simp] theorem State.answer_station : (s.answer r a b c d).station = s.station := rfl
@[simp] theorem State.answer_me : (s.answer r a b c d).me = s.me := rfl
end

section
variable (body : RequestBody) (tag : Octet) (s : State)
@[simp] theorem State.enqueue_straps : (s.enqueue body tag).straps = s.straps := rfl
@[simp] theorem State.enqueue_resetAsserted : (s.enqueue body tag).resetAsserted = s.resetAsserted := rfl
@[simp] theorem State.enqueue_le : (s.enqueue body tag).le = s.le := rfl
@[simp] theorem State.enqueue_au : (s.enqueue body tag).au = s.au := rfl
@[simp] theorem State.enqueue_tu : (s.enqueue body tag).tu = s.tu := rfl
@[simp] theorem State.enqueue_mc : (s.enqueue body tag).mc = s.mc := rfl
@[simp] theorem State.enqueue_ss : (s.enqueue body tag).ss = s.ss := rfl
@[simp] theorem State.enqueue_hostData : (s.enqueue body tag).hostData = s.hostData := rfl
@[simp] theorem State.enqueue_pending : (s.enqueue body tag).pending = s.pending := rfl
@[simp] theorem State.enqueue_station : (s.enqueue body tag).station = s.station := rfl
@[simp] theorem State.enqueue_me : (s.enqueue body tag).me = s.me := rfl
@[simp] theorem State.enqueue_hp_requestA : (s.enqueue body tag).hp.requestA = s.hp.requestA := rfl
@[simp] theorem State.enqueue_hp_requestB : (s.enqueue body tag).hp.requestB = s.hp.requestB := rfl
@[simp] theorem State.enqueue_hp_requestC : (s.enqueue body tag).hp.requestC = s.hp.requestC := rfl
@[simp] theorem State.enqueue_hp_requestD : (s.enqueue body tag).hp.requestD = s.hp.requestD := rfl
@[simp] theorem State.enqueue_hp_answerA : (s.enqueue body tag).hp.answerA = s.hp.answerA := rfl
@[simp] theorem State.enqueue_hp_answerB : (s.enqueue body tag).hp.answerB = s.hp.answerB := rfl
@[simp] theorem State.enqueue_hp_answerC : (s.enqueue body tag).hp.answerC = s.hp.answerC := rfl
@[simp] theorem State.enqueue_hp_answerD : (s.enqueue body tag).hp.answerD = s.hp.answerD := rfl
@[simp] theorem State.enqueue_hp_commitResult : (s.enqueue body tag).hp.commitResult = s.hp.commitResult := rfl
@[simp] theorem State.enqueue_hp_indications : (s.enqueue body tag).hp.indications = s.hp.indications := rfl
@[simp] theorem State.enqueue_hp_readPos : (s.enqueue body tag).hp.readPos = s.hp.readPos := rfl
@[simp] theorem State.enqueue_hp_overrun : (s.enqueue body tag).hp.overrun = s.hp.overrun := rfl
@[simp] theorem State.enqueue_hp_irqPending : (s.enqueue body tag).hp.irqPending = s.hp.irqPending := rfl
@[simp] theorem State.enqueue_hp_irqOverrun : (s.enqueue body tag).hp.irqOverrun = s.hp.irqOverrun := rfl
@[simp] theorem State.enqueue_hp_claims : (s.enqueue body tag).hp.claims = s.hp.claims := rfl
@[simp] theorem State.enqueue_hp_arrivals : (s.enqueue body tag).hp.arrivals = s.hp.arrivals := rfl
@[simp] theorem State.enqueue_hp_watches : (s.enqueue body tag).hp.watches = s.hp.watches := rfl
end

section
variable (s : State)
@[simp] theorem State.clearMarks_straps : (s.clearMarks).straps = s.straps := rfl
@[simp] theorem State.clearMarks_resetAsserted : (s.clearMarks).resetAsserted = s.resetAsserted := rfl
@[simp] theorem State.clearMarks_le : (s.clearMarks).le = s.le := rfl
@[simp] theorem State.clearMarks_au : (s.clearMarks).au = s.au := rfl
@[simp] theorem State.clearMarks_tu : (s.clearMarks).tu = s.tu := rfl
@[simp] theorem State.clearMarks_mc : (s.clearMarks).mc = s.mc := rfl
@[simp] theorem State.clearMarks_ss : (s.clearMarks).ss = s.ss := rfl
@[simp] theorem State.clearMarks_hostData : (s.clearMarks).hostData = s.hostData := rfl
@[simp] theorem State.clearMarks_pending : (s.clearMarks).pending = s.pending := rfl
@[simp] theorem State.clearMarks_station : (s.clearMarks).station = s.station := rfl
@[simp] theorem State.clearMarks_me : (s.clearMarks).me = s.me := rfl
@[simp] theorem State.clearMarks_hp_requestA : (s.clearMarks).hp.requestA = s.hp.requestA := rfl
@[simp] theorem State.clearMarks_hp_requestB : (s.clearMarks).hp.requestB = s.hp.requestB := rfl
@[simp] theorem State.clearMarks_hp_requestC : (s.clearMarks).hp.requestC = s.hp.requestC := rfl
@[simp] theorem State.clearMarks_hp_requestD : (s.clearMarks).hp.requestD = s.hp.requestD := rfl
@[simp] theorem State.clearMarks_hp_answerA : (s.clearMarks).hp.answerA = s.hp.answerA := rfl
@[simp] theorem State.clearMarks_hp_answerB : (s.clearMarks).hp.answerB = s.hp.answerB := rfl
@[simp] theorem State.clearMarks_hp_answerC : (s.clearMarks).hp.answerC = s.hp.answerC := rfl
@[simp] theorem State.clearMarks_hp_answerD : (s.clearMarks).hp.answerD = s.hp.answerD := rfl
@[simp] theorem State.clearMarks_hp_commitResult : (s.clearMarks).hp.commitResult = s.hp.commitResult := rfl
@[simp] theorem State.clearMarks_hp_indications : (s.clearMarks).hp.indications = s.hp.indications := rfl
@[simp] theorem State.clearMarks_hp_readPos : (s.clearMarks).hp.readPos = s.hp.readPos := rfl
@[simp] theorem State.clearMarks_hp_overrun : (s.clearMarks).hp.overrun = s.hp.overrun := rfl
@[simp] theorem State.clearMarks_hp_irqPending : (s.clearMarks).hp.irqPending = s.hp.irqPending := rfl
@[simp] theorem State.clearMarks_hp_irqOverrun : (s.clearMarks).hp.irqOverrun = s.hp.irqOverrun := rfl
@[simp] theorem State.clearMarks_hp_claims : (s.clearMarks).hp.claims = s.hp.claims := rfl
@[simp] theorem State.clearMarks_hp_arrivals : (s.clearMarks).hp.arrivals = s.hp.arrivals := rfl
@[simp] theorem State.clearMarks_hp_watches : (s.clearMarks).hp.watches = s.hp.watches := rfl
end

section
variable (t : Station) (e : RosterEntry) (s : State)
@[simp] theorem State.setEntry_straps : (s.setEntry t e).straps = s.straps := rfl
@[simp] theorem State.setEntry_resetAsserted : (s.setEntry t e).resetAsserted = s.resetAsserted := rfl
@[simp] theorem State.setEntry_le : (s.setEntry t e).le = s.le := rfl
@[simp] theorem State.setEntry_au : (s.setEntry t e).au = s.au := rfl
@[simp] theorem State.setEntry_mc : (s.setEntry t e).mc = s.mc := rfl
@[simp] theorem State.setEntry_ss : (s.setEntry t e).ss = s.ss := rfl
@[simp] theorem State.setEntry_hp : (s.setEntry t e).hp = s.hp := rfl
@[simp] theorem State.setEntry_hostData : (s.setEntry t e).hostData = s.hostData := rfl
@[simp] theorem State.setEntry_pending : (s.setEntry t e).pending = s.pending := rfl
@[simp] theorem State.setEntry_station : (s.setEntry t e).station = s.station := rfl
@[simp] theorem State.setEntry_me : (s.setEntry t e).me = s.me := rfl
@[simp] theorem State.setEntry_tu_locks : (s.setEntry t e).tu.locks = s.tu.locks := rfl
@[simp] theorem State.setEntry_tu_barriers : (s.setEntry t e).tu.barriers = s.tu.barriers := rfl
@[simp] theorem State.setEntry_tu_words : (s.setEntry t e).tu.words = s.tu.words := rfl
@[simp] theorem State.setEntry_tu_installed : (s.setEntry t e).tu.installed = s.tu.installed := rfl
end

section
variable (l : LockNo) (r : LockRecord) (s : State)
@[simp] theorem State.setLock_straps : (s.setLock l r).straps = s.straps := rfl
@[simp] theorem State.setLock_resetAsserted : (s.setLock l r).resetAsserted = s.resetAsserted := rfl
@[simp] theorem State.setLock_le : (s.setLock l r).le = s.le := rfl
@[simp] theorem State.setLock_au : (s.setLock l r).au = s.au := rfl
@[simp] theorem State.setLock_mc : (s.setLock l r).mc = s.mc := rfl
@[simp] theorem State.setLock_ss : (s.setLock l r).ss = s.ss := rfl
@[simp] theorem State.setLock_hp : (s.setLock l r).hp = s.hp := rfl
@[simp] theorem State.setLock_hostData : (s.setLock l r).hostData = s.hostData := rfl
@[simp] theorem State.setLock_pending : (s.setLock l r).pending = s.pending := rfl
@[simp] theorem State.setLock_station : (s.setLock l r).station = s.station := rfl
@[simp] theorem State.setLock_me : (s.setLock l r).me = s.me := rfl
@[simp] theorem State.setLock_tu_roster : (s.setLock l r).tu.roster = s.tu.roster := rfl
@[simp] theorem State.setLock_tu_barriers : (s.setLock l r).tu.barriers = s.tu.barriers := rfl
@[simp] theorem State.setLock_tu_words : (s.setLock l r).tu.words = s.tu.words := rfl
@[simp] theorem State.setLock_tu_installed : (s.setLock l r).tu.installed = s.tu.installed := rfl
end

section
variable (b : BarrierNo) (r : BarrierRecord) (s : State)
@[simp] theorem State.setBarrier_straps : (s.setBarrier b r).straps = s.straps := rfl
@[simp] theorem State.setBarrier_resetAsserted : (s.setBarrier b r).resetAsserted = s.resetAsserted := rfl
@[simp] theorem State.setBarrier_le : (s.setBarrier b r).le = s.le := rfl
@[simp] theorem State.setBarrier_au : (s.setBarrier b r).au = s.au := rfl
@[simp] theorem State.setBarrier_mc : (s.setBarrier b r).mc = s.mc := rfl
@[simp] theorem State.setBarrier_ss : (s.setBarrier b r).ss = s.ss := rfl
@[simp] theorem State.setBarrier_hp : (s.setBarrier b r).hp = s.hp := rfl
@[simp] theorem State.setBarrier_hostData : (s.setBarrier b r).hostData = s.hostData := rfl
@[simp] theorem State.setBarrier_pending : (s.setBarrier b r).pending = s.pending := rfl
@[simp] theorem State.setBarrier_station : (s.setBarrier b r).station = s.station := rfl
@[simp] theorem State.setBarrier_me : (s.setBarrier b r).me = s.me := rfl
@[simp] theorem State.setBarrier_tu_roster : (s.setBarrier b r).tu.roster = s.tu.roster := rfl
@[simp] theorem State.setBarrier_tu_locks : (s.setBarrier b r).tu.locks = s.tu.locks := rfl
@[simp] theorem State.setBarrier_tu_words : (s.setBarrier b r).tu.words = s.tu.words := rfl
@[simp] theorem State.setBarrier_tu_installed : (s.setBarrier b r).tu.installed = s.tu.installed := rfl
end

section
variable (t : Station) (v : Word16) (s : State)
@[simp] theorem State.setWord_straps : (s.setWord t v).straps = s.straps := rfl
@[simp] theorem State.setWord_resetAsserted : (s.setWord t v).resetAsserted = s.resetAsserted := rfl
@[simp] theorem State.setWord_le : (s.setWord t v).le = s.le := rfl
@[simp] theorem State.setWord_au : (s.setWord t v).au = s.au := rfl
@[simp] theorem State.setWord_mc : (s.setWord t v).mc = s.mc := rfl
@[simp] theorem State.setWord_ss : (s.setWord t v).ss = s.ss := rfl
@[simp] theorem State.setWord_hp : (s.setWord t v).hp = s.hp := rfl
@[simp] theorem State.setWord_hostData : (s.setWord t v).hostData = s.hostData := rfl
@[simp] theorem State.setWord_pending : (s.setWord t v).pending = s.pending := rfl
@[simp] theorem State.setWord_station : (s.setWord t v).station = s.station := rfl
@[simp] theorem State.setWord_me : (s.setWord t v).me = s.me := rfl
@[simp] theorem State.setWord_tu_roster : (s.setWord t v).tu.roster = s.tu.roster := rfl
@[simp] theorem State.setWord_tu_locks : (s.setWord t v).tu.locks = s.tu.locks := rfl
@[simp] theorem State.setWord_tu_barriers : (s.setWord t v).tu.barriers = s.tu.barriers := rfl
@[simp] theorem State.setWord_tu_installed : (s.setWord t v).tu.installed = s.tu.installed := rfl
end

section
variable (t : Station) (x : Timer) (s : State)
@[simp] theorem State.setSilence_straps : (s.setSilence t x).straps = s.straps := rfl
@[simp] theorem State.setSilence_resetAsserted : (s.setSilence t x).resetAsserted = s.resetAsserted := rfl
@[simp] theorem State.setSilence_le : (s.setSilence t x).le = s.le := rfl
@[simp] theorem State.setSilence_au : (s.setSilence t x).au = s.au := rfl
@[simp] theorem State.setSilence_tu : (s.setSilence t x).tu = s.tu := rfl
@[simp] theorem State.setSilence_ss : (s.setSilence t x).ss = s.ss := rfl
@[simp] theorem State.setSilence_hp : (s.setSilence t x).hp = s.hp := rfl
@[simp] theorem State.setSilence_hostData : (s.setSilence t x).hostData = s.hostData := rfl
@[simp] theorem State.setSilence_pending : (s.setSilence t x).pending = s.pending := rfl
@[simp] theorem State.setSilence_station : (s.setSilence t x).station = s.station := rfl
@[simp] theorem State.setSilence_me : (s.setSilence t x).me = s.me := rfl
@[simp] theorem State.setSilence_mc_state : (s.setSilence t x).mc.state = s.mc.state := rfl
@[simp] theorem State.setSilence_mc_joiningCause : (s.setSilence t x).mc.joiningCause = s.mc.joiningCause := rfl
@[simp] theorem State.setSilence_mc_quietWatch : (s.setSilence t x).mc.quietWatch = s.mc.quietWatch := rfl
@[simp] theorem State.setSilence_mc_presence : (s.setSilence t x).mc.presence = s.mc.presence := rfl
@[simp] theorem State.setSilence_mc_transfer : (s.setSilence t x).mc.transfer = s.mc.transfer := rfl
end

section
variable (s : State)
@[simp] theorem State.uncount_straps : (s.uncount).straps = s.straps := rfl
@[simp] theorem State.uncount_resetAsserted : (s.uncount).resetAsserted = s.resetAsserted := rfl
@[simp] theorem State.uncount_le : (s.uncount).le = s.le := rfl
@[simp] theorem State.uncount_au : (s.uncount).au = s.au := rfl
@[simp] theorem State.uncount_tu : (s.uncount).tu = s.tu := rfl
@[simp] theorem State.uncount_mc : (s.uncount).mc = s.mc := rfl
@[simp] theorem State.uncount_hp : (s.uncount).hp = s.hp := rfl
@[simp] theorem State.uncount_hostData : (s.uncount).hostData = s.hostData := rfl
@[simp] theorem State.uncount_pending : (s.uncount).pending = s.pending := rfl
@[simp] theorem State.uncount_station : (s.uncount).station = s.station := rfl
@[simp] theorem State.uncount_me : (s.uncount).me = s.me := rfl
end

section
variable (s : State)
@[simp] theorem State.setYield_straps : (s.setYield).straps = s.straps := rfl
@[simp] theorem State.setYield_resetAsserted : (s.setYield).resetAsserted = s.resetAsserted := rfl
@[simp] theorem State.setYield_au : (s.setYield).au = s.au := rfl
@[simp] theorem State.setYield_tu : (s.setYield).tu = s.tu := rfl
@[simp] theorem State.setYield_mc : (s.setYield).mc = s.mc := rfl
@[simp] theorem State.setYield_ss : (s.setYield).ss = s.ss := rfl
@[simp] theorem State.setYield_hp : (s.setYield).hp = s.hp := rfl
@[simp] theorem State.setYield_hostData : (s.setYield).hostData = s.hostData := rfl
@[simp] theorem State.setYield_pending : (s.setYield).pending = s.pending := rfl
@[simp] theorem State.setYield_station : (s.setYield).station = s.station := rfl
@[simp] theorem State.setYield_me : (s.setYield).me = s.me := rfl
end

section
variable (c : Bool) (s : State)
@[simp] theorem State.setOrderHold_straps : (s.setOrderHold c).straps = s.straps := rfl
@[simp] theorem State.setOrderHold_resetAsserted : (s.setOrderHold c).resetAsserted = s.resetAsserted := rfl
@[simp] theorem State.setOrderHold_le : (s.setOrderHold c).le = s.le := rfl
@[simp] theorem State.setOrderHold_tu : (s.setOrderHold c).tu = s.tu := rfl
@[simp] theorem State.setOrderHold_mc : (s.setOrderHold c).mc = s.mc := rfl
@[simp] theorem State.setOrderHold_ss : (s.setOrderHold c).ss = s.ss := rfl
@[simp] theorem State.setOrderHold_hp : (s.setOrderHold c).hp = s.hp := rfl
@[simp] theorem State.setOrderHold_hostData : (s.setOrderHold c).hostData = s.hostData := rfl
@[simp] theorem State.setOrderHold_pending : (s.setOrderHold c).pending = s.pending := rfl
@[simp] theorem State.setOrderHold_station : (s.setOrderHold c).station = s.station := rfl
@[simp] theorem State.setOrderHold_me : (s.setOrderHold c).me = s.me := rfl
end

section
variable (c : Bool) (s : State)
@[simp] theorem State.setClusterKnown_straps : (s.setClusterKnown c).straps = s.straps := rfl
@[simp] theorem State.setClusterKnown_resetAsserted : (s.setClusterKnown c).resetAsserted = s.resetAsserted := rfl
@[simp] theorem State.setClusterKnown_le : (s.setClusterKnown c).le = s.le := rfl
@[simp] theorem State.setClusterKnown_tu : (s.setClusterKnown c).tu = s.tu := rfl
@[simp] theorem State.setClusterKnown_mc : (s.setClusterKnown c).mc = s.mc := rfl
@[simp] theorem State.setClusterKnown_ss : (s.setClusterKnown c).ss = s.ss := rfl
@[simp] theorem State.setClusterKnown_hp : (s.setClusterKnown c).hp = s.hp := rfl
@[simp] theorem State.setClusterKnown_hostData : (s.setClusterKnown c).hostData = s.hostData := rfl
@[simp] theorem State.setClusterKnown_pending : (s.setClusterKnown c).pending = s.pending := rfl
@[simp] theorem State.setClusterKnown_station : (s.setClusterKnown c).station = s.station := rfl
@[simp] theorem State.setClusterKnown_me : (s.setClusterKnown c).me = s.me := rfl
end

/-! ## What an indication leaves of the Host Port -/

@[simp] theorem State.indicate_hp_requestA (r : Indication) (s : State) :
    (s.indicate r).hp.requestA = s.hp.requestA := by
  simp only [State.indicate, State.onHp, HostPort.indicate]; split <;> rfl
@[simp] theorem State.indicate_hp_requestB (r : Indication) (s : State) :
    (s.indicate r).hp.requestB = s.hp.requestB := by
  simp only [State.indicate, State.onHp, HostPort.indicate]; split <;> rfl
@[simp] theorem State.indicate_hp_requestC (r : Indication) (s : State) :
    (s.indicate r).hp.requestC = s.hp.requestC := by
  simp only [State.indicate, State.onHp, HostPort.indicate]; split <;> rfl
@[simp] theorem State.indicate_hp_requestD (r : Indication) (s : State) :
    (s.indicate r).hp.requestD = s.hp.requestD := by
  simp only [State.indicate, State.onHp, HostPort.indicate]; split <;> rfl
@[simp] theorem State.indicate_hp_answerA (r : Indication) (s : State) :
    (s.indicate r).hp.answerA = s.hp.answerA := by
  simp only [State.indicate, State.onHp, HostPort.indicate]; split <;> rfl
@[simp] theorem State.indicate_hp_answerB (r : Indication) (s : State) :
    (s.indicate r).hp.answerB = s.hp.answerB := by
  simp only [State.indicate, State.onHp, HostPort.indicate]; split <;> rfl
@[simp] theorem State.indicate_hp_answerC (r : Indication) (s : State) :
    (s.indicate r).hp.answerC = s.hp.answerC := by
  simp only [State.indicate, State.onHp, HostPort.indicate]; split <;> rfl
@[simp] theorem State.indicate_hp_answerD (r : Indication) (s : State) :
    (s.indicate r).hp.answerD = s.hp.answerD := by
  simp only [State.indicate, State.onHp, HostPort.indicate]; split <;> rfl
@[simp] theorem State.indicate_hp_commitResult (r : Indication) (s : State) :
    (s.indicate r).hp.commitResult = s.hp.commitResult := by
  simp only [State.indicate, State.onHp, HostPort.indicate]; split <;> rfl
@[simp] theorem State.indicate_hp_queue (r : Indication) (s : State) :
    (s.indicate r).hp.queue = s.hp.queue := by
  simp only [State.indicate, State.onHp, HostPort.indicate]; split <;> rfl
@[simp] theorem State.indicate_hp_readPos (r : Indication) (s : State) :
    (s.indicate r).hp.readPos = s.hp.readPos := by
  simp only [State.indicate, State.onHp, HostPort.indicate]; split <;> rfl
@[simp] theorem State.indicate_hp_irqPending (r : Indication) (s : State) :
    (s.indicate r).hp.irqPending = s.hp.irqPending := by
  simp only [State.indicate, State.onHp, HostPort.indicate]; split <;> rfl
@[simp] theorem State.indicate_hp_irqOverrun (r : Indication) (s : State) :
    (s.indicate r).hp.irqOverrun = s.hp.irqOverrun := by
  simp only [State.indicate, State.onHp, HostPort.indicate]; split <;> rfl
@[simp] theorem State.indicate_hp_claims (r : Indication) (s : State) :
    (s.indicate r).hp.claims = s.hp.claims := by
  simp only [State.indicate, State.onHp, HostPort.indicate]; split <;> rfl
@[simp] theorem State.indicate_hp_arrivals (r : Indication) (s : State) :
    (s.indicate r).hp.arrivals = s.hp.arrivals := by
  simp only [State.indicate, State.onHp, HostPort.indicate]; split <;> rfl
@[simp] theorem State.indicate_hp_watches (r : Indication) (s : State) :
    (s.indicate r).hp.watches = s.hp.watches := by
  simp only [State.indicate, State.onHp, HostPort.indicate]; split <;> rfl

end Sys2Proof.Machine
end

