-- ==== Sys2Proof/Laws/Records.lean ====
section
/-!
SUPPORT. Read after write for each kind of record: the record written reads as written, every other reads as before.
-/

namespace Sys2Proof.Machine

theorem State.lock_setLock (s : State) (l k : LockNo) (r : LockRecord) :
    (s.setLock l r).lock k = if k = l then r else s.lock k := by
  simp only [State.lock, State.setLock, State.onTu_tu, Fin.getElem_fin, Vector.getElem_set, Fin.ext_iff, eq_comm]

theorem State.claim_setClaim (s : State) (l k : LockNo) (c : ClaimRecord) :
    (s.setClaim l c).claim k = if k = l then c else s.claim k := by
  simp only [State.claim, State.setClaim, State.onHp_hp, Fin.getElem_fin, Vector.getElem_set, Fin.ext_iff, eq_comm]

theorem State.barrier_setBarrier (s : State) (b k : BarrierNo) (r : BarrierRecord) :
    (s.setBarrier b r).barrier k = if k = b then r else s.barrier k := by
  simp only [State.barrier, State.setBarrier, State.onTu_tu, Fin.getElem_fin, Vector.getElem_set, Fin.ext_iff, eq_comm]

theorem State.arrival_setArrival (s : State) (b k : BarrierNo) (a : ArrivalRecord) :
    (s.setArrival b a).arrival k = if k = b then a else s.arrival k := by
  simp only [State.arrival, State.setArrival, State.onHp_hp, Fin.getElem_fin, Vector.getElem_set, Fin.ext_iff, eq_comm]

theorem State.watch_setWatch (s : State) (i k : SlotNo) (w : WatchSlot) :
    (s.setWatch i w).watch k = if k = i then w else s.watch k := by
  simp only [State.watch, State.setWatch, State.onHp_hp, Fin.getElem_fin, Vector.getElem_set, Fin.ext_iff, eq_comm]

theorem State.entry_setEntry (s : State) (t k : Station) (e : RosterEntry) :
    (s.setEntry t e).entry k = if k = t then e else s.entry k := by
  simp only [State.entry, State.setEntry, State.onTu_tu, Fin.getElem_fin, Vector.getElem_set, Fin.ext_iff, eq_comm]

theorem State.word_setWord (s : State) (t k : Station) (v : Word16) :
    (s.setWord t v).word k = if k = t then v else s.word k := by
  simp only [State.word, State.setWord, State.onTu_tu, Fin.getElem_fin, Vector.getElem_set, Fin.ext_iff, eq_comm]

theorem State.standing_setEntry (s : State) (t k : Station) (e : RosterEntry) :
    (s.setEntry t e).standing k = if k = t then e.standing else s.standing k := by
  simp only [State.standing, State.entry_setEntry]; split <;> rfl

/-! ## Reads that an update of another kind leaves -/

section
variable (s : State)

@[simp] theorem State.claim_indicate (r : Indication) (l : LockNo) : (s.indicate r).claim l = s.claim l := by
  simp only [State.claim, State.indicate_hp_claims]

@[simp] theorem State.arrival_indicate (r : Indication) (b : BarrierNo) : (s.indicate r).arrival b = s.arrival b := by
  simp only [State.arrival, State.indicate_hp_arrivals]

@[simp] theorem State.watch_indicate (r : Indication) (i : SlotNo) : (s.indicate r).watch i = s.watch i := by
  simp only [State.watch, State.indicate_hp_watches]

@[simp] theorem State.lock_indicate (r : Indication) (l : LockNo) : (s.indicate r).lock l = s.lock l := rfl
@[simp] theorem State.barrier_indicate (r : Indication) (b : BarrierNo) : (s.indicate r).barrier b = s.barrier b := rfl
@[simp] theorem State.entry_indicate (r : Indication) (t : Station) : (s.indicate r).entry t = s.entry t := rfl
@[simp] theorem State.word_indicate (r : Indication) (t : Station) : (s.indicate r).word t = s.word t := rfl
@[simp] theorem State.lock_setClaim (l k : LockNo) (c : ClaimRecord) : (s.setClaim l c).lock k = s.lock k := rfl
@[simp] theorem State.claim_setLock (l k : LockNo) (r : LockRecord) : (s.setLock l r).claim k = s.claim k := rfl
@[simp] theorem State.barrier_setArrival (b k : BarrierNo) (a : ArrivalRecord) :
    (s.setArrival b a).barrier k = s.barrier k := rfl
@[simp] theorem State.arrival_setBarrier (b k : BarrierNo) (r : BarrierRecord) :
    (s.setBarrier b r).arrival k = s.arrival k := rfl
@[simp] theorem State.watch_setWord (t : Station) (v : Word16) (i : SlotNo) : (s.setWord t v).watch i = s.watch i := rfl
@[simp] theorem State.word_setWatch (t : Station) (w : WatchSlot) (i : SlotNo) :
    (s.setWatch i w).word t = s.word t := rfl

end

/-! ## Updates of one place commute or merge -/

/-- Writing a record twice keeps the last. -/
theorem State.setLock_setLock (s : State) (l : LockNo) (r q : LockRecord) :
    (s.setLock l r).setLock l q = s.setLock l q := by
  simp [State.setLock, State.onTu]

/-- Writing a claim record twice keeps the last. -/
theorem State.setClaim_setClaim (s : State) (l : LockNo) (c d : ClaimRecord) :
    (s.setClaim l c).setClaim l d = s.setClaim l d := by
  simp [State.setClaim, State.onHp]

/-- An indication and a claim record go to different places. -/
theorem State.setClaim_indicate (s : State) (l : LockNo) (c : ClaimRecord) (r : Indication) :
    (s.indicate r).setClaim l c = (s.setClaim l c).indicate r := by
  by_cases h : s.hp.indications.length < Config.indicationCapacity <;>
    simp [State.setClaim, State.indicate, State.onHp, HostPort.indicate, h]

/-- An indication and an arrival record go to different places. -/
theorem State.setArrival_indicate (s : State) (b : BarrierNo) (a : ArrivalRecord) (r : Indication) :
    (s.indicate r).setArrival b a = (s.setArrival b a).indicate r := by
  by_cases h : s.hp.indications.length < Config.indicationCapacity <;>
    simp [State.setArrival, State.indicate, State.onHp, HostPort.indicate, h]

/-- A lock record and a claim record go to different places. -/
theorem State.setClaim_setLock (s : State) (l k : LockNo) (r : LockRecord) (c : ClaimRecord) :
    (s.setClaim k c).setLock l r = (s.setLock l r).setClaim k c := rfl

end Sys2Proof.Machine
end

