-- ==== Sys2Proof/Laws/Indications.lean ====
section
/-!
SUPPORT. What queueing an indication can do (R165, R167), said once, and what the removal of a request can do (R159).
-/

namespace Sys2Proof.Machine

/-- With room, the record joins the tail. -/
theorem State.indicate_of_lt {s : State} (r : Indication) (h : s.hp.indications.length < 16) :
    s.indicate r = { s with hp := { s.hp with indications := s.hp.indications ++ [r] } } := by
  simp [State.indicate, State.onHp, HostPort.indicate, Config.indicationCapacity, h]

/-- At a full queue the record is discarded and OVERRUN set. -/
theorem State.indicate_of_le {s : State} (r : Indication) (h : 16 ≤ s.hp.indications.length) :
    s.indicate r = { s with hp := { s.hp with overrun := true } } := by
  simp [State.indicate, State.onHp, HostPort.indicate, Config.indicationCapacity, Nat.not_lt.mpr h]

/-- An indication keeps the queue at 16 records or fewer. -/
theorem State.indicate_length {s : State} (r : Indication) (h : s.hp.indications.length ≤ 16) :
    (s.indicate r).hp.indications.length ≤ 16 := by
  by_cases k : s.hp.indications.length < 16
  · rw [State.indicate_of_lt r k]; simp; omega
  · rw [State.indicate_of_le r (by omega)]; exact h

/-- The queue after an indication: the same with the record at its tail, or the same. -/
theorem State.indicate_queue (s : State) (r : Indication) :
    (s.indicate r).hp.indications = s.hp.indications ++ [r] ∨ (s.indicate r).hp.indications = s.hp.indications := by
  by_cases k : s.hp.indications.length < 16
  · left; rw [State.indicate_of_lt r k]
  · right; rw [State.indicate_of_le r (by omega)]

/-- An indication never empties the queue. -/
theorem State.indicate_ne_nil {s : State} (r : Indication) (h : s.hp.indications ≠ []) :
    (s.indicate r).hp.indications ≠ [] := by
  rcases s.indicate_queue r with e | e <;> rw [e] <;> simp [h]

/-- A conditional indication is one, or nothing. -/
theorem State.indicateIf_cases (s : State) (c : Bool) (r : Indication) :
    s.indicateIf c r = s.indicate r ∨ s.indicateIf c r = s := by
  cases c <;> simp [State.indicateIf]

/-! ## The request queue -/

/-- The removal of a request takes one entry with its tag out of the queue, in place. -/
theorem State.removeRequest_queue (s : State) (tag : Octet) :
    (s.removeRequest tag).hp.queue = s.hp.queue.eraseP (fun r => r.tag == tag) := by
  simp only [State.removeRequest]; split <;> rfl

/-- The removal of a request leaves the rest of the Host Port as it is. -/
theorem State.removeRequest_hp (s : State) (tag : Octet) :
    (s.removeRequest tag).hp = { s.hp with queue := s.hp.queue.eraseP (fun r => r.tag == tag) } := by
  simp only [State.removeRequest]; split <;> rfl

/-- The removal of a request uncounts it where it was the counted item, and leaves the attempt in hand. -/
theorem State.removeRequest_ss (s : State) (tag : Octet) :
    (s.removeRequest tag).ss =
      if s.ss.counted = some (.request tag) then { s.ss with counted := none, counter := 0 } else s.ss := by
  simp only [State.removeRequest]; split <;> rfl

/-- The removal of a request changes the Host Port and the Send Selector alone. -/
theorem State.removeRequest_frame (s : State) (tag : Octet) :
    let t := s.removeRequest tag
    t.straps = s.straps ∧ t.resetAsserted = s.resetAsserted ∧ t.le = s.le ∧ t.au = s.au ∧ t.tu = s.tu ∧ t.mc = s.mc ∧
      t.hostData = s.hostData ∧ t.pending = s.pending := by
  simp only [State.removeRequest]; split <;> simp

/-- A removal never makes the queue longer. -/
theorem State.removeRequest_length (s : State) (tag : Octet) :
    (s.removeRequest tag).hp.queue.length ≤ s.hp.queue.length := by
  rw [State.removeRequest_queue]; exact List.length_eraseP_le

/-- The return of a local record changes claim and arrival records alone. -/
theorem State.returnRecord_frame (s : State) (body : RequestBody) :
    s.returnRecord body = { s with hp := { s.hp with
      claims := (s.returnRecord body).hp.claims, arrivals := (s.returnRecord body).hp.arrivals } } := by
  cases body <;> simp only [State.returnRecord] <;> (repeat' split) <;> rfl

end Sys2Proof.Machine
end

