-- ==== Sys2Proof/Laws/LifeCycle.lean ====
section
/-!
SUPPORT. The entries into the station states as one record each: what OUTSIDE, HALTED, DIVERGED, JOINING and IN STEP set,
and that everything else stays.
-/

namespace Sys2Proof.Machine

/-- OUTSIDE entered (R135), field by field. -/
theorem State.enterOutside_eq (s : State) (cause : Cause) (tag : Octet) :
    s.enterOutside cause tag = s.outsideBy cause tag s.hp.queue.length := rfl

/-- HALTED entered (R136), field by field. -/
theorem State.enterHalted_eq (s : State) (cause : Cause) : s.enterHalted cause = s.haltedBy cause := rfl

/-- DIVERGED entered (R138), field by field. -/
theorem State.enterDiverged_eq (s : State) (cause : Cause) : s.enterDiverged cause = s.divergedBy cause := rfl

/-- JOINING entered (R139): one STATE, four fields of the Membership Controller. -/
theorem State.enterJoining_eq (s : State) (cause : JoiningCause) (tag : Octet) :
    s.enterJoining cause tag = State.indicate (.state .joining cause.cause tag 0)
      { s with mc := { s.mc with
        state := .joining, joiningCause := cause, presence := .running 4096, transfer := .running 32768 } } := rfl

/-- IN STEP entered (R140, R141): one STATE, four fields of the Membership Controller. -/
theorem State.enterInStep_eq (s : State) (cause : Cause) (tag : Octet) :
    s.enterInStep cause tag = State.indicate (.state .inStep cause tag 0)
      { s with mc := { s.mc with
        state := .inStep, transfer := .cleared, presence := .running 4096, silence := s.startSilence } } := rfl

/-- The station state each entry leaves. -/
@[simp] theorem State.enterOutside_station (s : State) (cause : Cause) (tag : Octet) :
    (s.enterOutside cause tag).station = .outside := rfl
@[simp] theorem State.enterHalted_station (s : State) (cause : Cause) : (s.enterHalted cause).station = .halted := rfl
@[simp] theorem State.enterDiverged_station (s : State) (cause : Cause) :
    (s.enterDiverged cause).station = .diverged := rfl
@[simp] theorem State.enterJoining_station (s : State) (cause : JoiningCause) (tag : Octet) :
    (s.enterJoining cause tag).station = .joining := rfl
@[simp] theorem State.enterInStep_station (s : State) (cause : Cause) (tag : Octet) :
    (s.enterInStep cause tag).station = .inStep := rfl
@[simp] theorem State.leaveClusterFor_station (s : State) (cause : Cause) :
    (s.leaveClusterFor cause).station = .outside := rfl
@[simp] theorem State.loseCluster_station (s : State) : s.loseCluster.station = .outside := rfl

/-- The replica is empty after an entry into OUTSIDE or HALTED (R47). -/
@[simp] theorem State.enterOutside_tu (s : State) (cause : Cause) (tag : Octet) :
    (s.enterOutside cause tag).tu = emptyReplica := rfl
@[simp] theorem State.enterHalted_tu (s : State) (cause : Cause) : (s.enterHalted cause).tu = emptyReplica := rfl

/-- The request queue is empty after an entry into OUTSIDE or HALTED (R135, R136). -/
@[simp] theorem State.enterOutside_queue (s : State) (cause : Cause) (tag : Octet) :
    (s.enterOutside cause tag).hp.queue = [] := by
  rw [State.enterOutside_eq, State.outsideBy, State.indicate_hp_queue]; rfl
@[simp] theorem State.enterHalted_queue (s : State) (cause : Cause) : (s.enterHalted cause).hp.queue = [] := by
  rw [State.enterHalted_eq, State.haltedBy, State.indicate_hp_queue]; rfl

/-- DIVERGED and JOINING keep the replica (R138, R139). -/
@[simp] theorem State.enterDiverged_tu (s : State) (cause : Cause) : (s.enterDiverged cause).tu = s.tu := rfl
@[simp] theorem State.enterJoining_tu (s : State) (cause : JoiningCause) (tag : Octet) :
    (s.enterJoining cause tag).tu = s.tu := rfl
@[simp] theorem State.enterInStep_tu (s : State) (cause : Cause) (tag : Octet) : (s.enterInStep cause tag).tu = s.tu := rfl

/-- The line, the acceptance values and the straps that every entry but HALTED leaves. -/
theorem State.enterOutside_frame (s : State) (cause : Cause) (tag : Octet) :
    (s.enterOutside cause tag).le = s.le ∧ (s.enterOutside cause tag).au = s.au ∧
      (s.enterOutside cause tag).straps = s.straps ∧ (s.enterOutside cause tag).pending = s.pending :=
  ⟨rfl, rfl, rfl, rfl⟩
theorem State.enterDiverged_frame (s : State) (cause : Cause) :
    (s.enterDiverged cause).le = s.le ∧ (s.enterDiverged cause).au = s.au ∧ (s.enterDiverged cause).ss = s.ss ∧
      (s.enterDiverged cause).straps = s.straps ∧ (s.enterDiverged cause).pending = s.pending :=
  ⟨rfl, rfl, rfl, rfl, rfl⟩

end Sys2Proof.Machine
end

