-- ==== Sys2Proof/Laws/Barriers.lean ====
section
/-!
SUPPORT. What each shared barrier operation can do: the barrier it changes, the arrival record, the indication; and that it
changes nothing else.
-/

namespace Sys2Proof.Machine

/-- What the barrier operations on barrier `b` leave: everything but barrier `b`, its arrival record and the indication
queue. -/
def State.SameBesideBarrier (b : BarrierNo) (s t : State) : Prop :=
  t = { s with
    tu := { s.tu with barriers := t.tu.barriers }
    hp := { s.hp with
      arrivals := t.hp.arrivals, indications := t.hp.indications, overrun := t.hp.overrun } } ∧
  ∀ k : BarrierNo, k ≠ b → t.barrier k = s.barrier k ∧ t.arrival k = s.arrival k

theorem State.SameBesideBarrier.refl (b : BarrierNo) (s : State) : s.SameBesideBarrier b s :=
  ⟨rfl, fun _ _ => ⟨rfl, rfl⟩⟩

theorem State.SameBesideBarrier.trans {b : BarrierNo} {s t u : State} (h : s.SameBesideBarrier b t)
    (k : t.SameBesideBarrier b u) : s.SameBesideBarrier b u := by
  refine ⟨?_, fun i hi => ⟨(k.2 i hi).1.trans (h.2 i hi).1, (k.2 i hi).2.trans (h.2 i hi).2⟩⟩
  rw [k.1, h.1]

theorem State.sameBesideBarrier_setBarrier (b : BarrierNo) (r : BarrierRecord) (s : State) :
    s.SameBesideBarrier b (s.setBarrier b r) :=
  ⟨rfl, fun k hk => ⟨by rw [State.barrier_setBarrier]; simp [hk], rfl⟩⟩

theorem State.sameBesideBarrier_setArrival (b : BarrierNo) (a : ArrivalRecord) (s : State) :
    s.SameBesideBarrier b (s.setArrival b a) :=
  ⟨rfl, fun k hk => ⟨rfl, by rw [State.arrival_setArrival]; simp [hk]⟩⟩

theorem State.sameBesideBarrier_indicate (b : BarrierNo) (r : Indication) (s : State) :
    s.SameBesideBarrier b (s.indicate r) := by
  refine ⟨?_, fun k _ => ⟨rfl, by simp⟩⟩
  by_cases h : s.hp.indications.length < Config.indicationCapacity <;>
    simp [State.indicate, State.onHp, HostPort.indicate, h]

theorem State.sameBesideBarrier_openHere (own : Bool) (b : BarrierNo) (g : Octet) (n : Nat) (s : State) :
    s.SameBesideBarrier b (s.openHere own b g n) := by
  simp only [State.openHere]
  split
  · exact (s.sameBesideBarrier_indicate b _).trans (State.sameBesideBarrier_setArrival b _ _)
  · exact s.sameBesideBarrier_indicate b _

theorem State.sameBesideBarrier_applyArrive (sender : Station) (own : Bool) (tag : Octet) (b : BarrierNo) (n : Nat)
    (s : State) : s.SameBesideBarrier b (s.applyArrive sender own tag b n) := by
  have told (t : State) (r : Indication) (a : ArrivalRecord) : t.SameBesideBarrier b ((t.indicate r).setArrival b a) :=
    (t.sameBesideBarrier_indicate b r).trans (State.sameBesideBarrier_setArrival b a _)
  simp only [State.applyArrive]
  repeat' split
  all_goals first
    | exact .refl b s
    | exact told s _ _
    | exact s.sameBesideBarrier_setBarrier b _
    | exact (s.sameBesideBarrier_setBarrier b _).trans (told _ _ _)
    | exact (s.sameBesideBarrier_setBarrier b _).trans (State.sameBesideBarrier_openHere own b _ _ _)

theorem State.sameBesideBarrier_applyAbandon (sender : Station) (own : Bool) (tag : Octet) (b : BarrierNo) (g : Octet)
    (s : State) : s.SameBesideBarrier b (s.applyAbandon sender own tag b g) := by
  have told (t : State) (r : Indication) (a : ArrivalRecord) : t.SameBesideBarrier b ((t.indicate r).setArrival b a) :=
    (t.sameBesideBarrier_indicate b r).trans (State.sameBesideBarrier_setArrival b a _)
  simp only [State.applyAbandon]
  repeat' split
  all_goals first
    | exact .refl b s
    | exact told s _ _
    | exact s.sameBesideBarrier_setBarrier b _
    | exact (s.sameBesideBarrier_setBarrier b _).trans (told _ _ _)

theorem State.sameBesideBarrier_breakBarrier (gone : Station) (b : BarrierNo) (s : State) :
    s.SameBesideBarrier b (s.breakBarrier gone b) := by
  have told (t : State) (r : Indication) (a : ArrivalRecord) : t.SameBesideBarrier b ((t.indicate r).setArrival b a) :=
    (t.sameBesideBarrier_indicate b r).trans (State.sameBesideBarrier_setArrival b a _)
  simp only [State.breakBarrier]
  repeat' split
  all_goals first
    | exact .refl b s
    | exact s.sameBesideBarrier_setBarrier b _
    | exact (s.sameBesideBarrier_setBarrier b _).trans (told _ _ _)

theorem State.sameBesideBarrier_breakOwnArrival (b : BarrierNo) (s : State) :
    s.SameBesideBarrier b (s.breakOwnArrival b) := by
  simp only [State.breakOwnArrival]
  split
  · exact (s.sameBesideBarrier_setArrival b _).trans (State.sameBesideBarrier_indicate b _ _)
  · exact .refl b s

/-- The barrier a break leaves (R29): the next generation, idle, where the station that goes had arrived. -/
theorem State.barrier_breakBarrier (gone : Station) (b : BarrierNo) (s : State) :
    (s.breakBarrier gone b).barrier b =
      if s.hasInstalled (barrierPart b) = true ∧ hasStation (s.barrier b).arrived gone = true then
        ⟨(s.barrier b).generation + 1, 0, 0⟩
      else s.barrier b := by
  simp only [State.breakBarrier, BarrierRecord.nextUse]
  split
  · split <;> simp [State.barrier_setBarrier, *]
  · simp [*]

end Sys2Proof.Machine
end

