-- ==== Sys2Proof/Laws/Commits.lean ====
section
/-!
SUPPORT. The commits: the shared checks as ordered lists (R12, R32, R43), the row that a code in REQUEST A selects, and
what an answer writes.
-/

namespace Sys2Proof.Machine

/-- The code of a request kind selects that kind (Table 12-6). -/
@[simp] theorem RequestKind.ofCode_code (k : RequestKind) : RequestKind.ofCode k.code = some k := by
  cases k <;> rfl

/-- A commit of a kind acts on an unreset state whose REQUEST A selects that kind. -/
theorem State.commits_iff (kind : RequestKind) (s : State) :
    s.commits kind = true ↔ s.resetAsserted = false ∧ s.hp.requestA = kind.code := by
  simp [State.commits]

/-- A commit row runs its own effect where REQUEST A holds its kind's code. -/
theorem State.commitAs_of_commits {kind : RequestKind} {s : State} (h : s.commits kind = true) (effect : State → State)
    (tag : Octet) : s.commitAs (some kind) effect tag = effect s := by
  obtain ⟨hr, ha⟩ := (State.commits_iff kind s).mp h
  simp [State.commitAs, State.unlessReset, hr, ha]

/-- BAD TAG then DUPLICATE TAG, as an ordered list of checks. -/
theorem State.tagRefusal_eq (s : State) (tag : Octet) :
    s.tagRefusal tag = firstFailing [(tag == 0, .badTag), (s.hp.queue.any (fun r => r.tag == tag), .duplicateTag)] := by
  simp [State.tagRefusal, firstFailing, State.tagQueued]

/-- Steps 1 to 5 of R12 and R32, as an ordered list of checks. -/
theorem State.queuedRefusal_eq (s : State) (tag : Octet) : s.queuedRefusal tag = firstFailing (s.commonChecks tag) := by
  have e := s.tagRefusal_eq tag
  cases h : s.station <;>
    simp [State.queuedRefusal, State.commonChecks, firstFailing, State.leaveQueued, h, e]

/-- The checks of the local kinds, as an ordered list. -/
theorem State.localRefusal_eq (s : State) : s.localRefusal = firstFailing s.inStepChecks := by
  cases h : s.station <;> simp [State.localRefusal, State.inStepChecks, firstFailing, h]

/-- A check that precedes a list. -/
theorem firstFailing_append (xs ys : List (Bool × CommitResult)) :
    firstFailing (xs ++ ys) = (firstFailing xs).or (firstFailing ys) := by
  induction xs with
  | nil => rfl
  | cons x xs ih => obtain ⟨f, r⟩ := x; cases f <;> simp [firstFailing, ih]

/-- A refused commit writes COMMIT RESULT and ANSWER A to D, and nothing else. -/
theorem State.refuse_eq (s : State) (r : CommitResult) :
    s.refuse r = { s with hp := { s.hp with commitResult := r, answerA := 0, answerB := 0, answerC := 0, answerD := 0 } } :=
  rfl

/-- An accepted queued kind: the request at the tail, ANSWER A its place. -/
theorem State.acceptQueued_eq (s : State) (body : RequestBody) (tag : Octet) :
    s.acceptQueued body tag = s.queuedRequest body tag := by
  simp [State.acceptQueued, State.acceptCounted, State.enqueue, State.answer, State.onHp, State.queuedRequest, octetOf]

/-- QUEUE FULL, or the request at the tail with its record changed. -/
theorem State.queueUnlessFull_eq (s : State) (body : RequestBody) (tag : Octet) (record : State → State) :
    s.queueUnlessFull body tag record = s.committed [s.fullCheck] ((record s).queuedRequest body tag) := by
  by_cases h : 8 ≤ s.hp.queue.length <;>
    simp [State.queueUnlessFull, State.committed, State.fullCheck, firstFailing, State.queueFull,
      Config.requestCapacity, State.acceptQueued_eq, State.refuse, h]

end Sys2Proof.Machine
end

