-- ==== Sys2Proof/Laws/Line.lean ====
section
/-!
SUPPORT. What the operations of the Line Engine can do: the head won, the gap ended, a frame opened, an attempt begun, the
frame of a running slot kept through a port restart.
-/

namespace Sys2Proof.Machine

/-! ## The head won (R104) -/

/-- All that winning the head can do: CONTENDING becomes SENDING, and in any other state nothing changes. -/
theorem State.winHead_cases (s : State) :
    (s.le.line = .contending ∧ s.winHead = { s with le := { s.le with line := .sending } }) ∨
      (s.le.line ≠ .contending ∧ s.winHead = s) := by
  by_cases h : s.le.line = .contending <;> simp [State.winHead, h, State.onLe]

@[simp] theorem State.winHead_au (s : State) : s.winHead.au = s.au := by unfold State.winHead; split <;> rfl
@[simp] theorem State.winHead_tu (s : State) : s.winHead.tu = s.tu := by unfold State.winHead; split <;> rfl
@[simp] theorem State.winHead_mc (s : State) : s.winHead.mc = s.mc := by unfold State.winHead; split <;> rfl
@[simp] theorem State.winHead_ss (s : State) : s.winHead.ss = s.ss := by unfold State.winHead; split <;> rfl
@[simp] theorem State.winHead_hp (s : State) : s.winHead.hp = s.hp := by unfold State.winHead; split <;> rfl
@[simp] theorem State.winHead_straps (s : State) : s.winHead.straps = s.straps := by unfold State.winHead; split <;> rfl
@[simp] theorem State.winHead_resetAsserted (s : State) : s.winHead.resetAsserted = s.resetAsserted := by
  unfold State.winHead; split <;> rfl
@[simp] theorem State.winHead_hostData (s : State) : s.winHead.hostData = s.hostData := by
  unfold State.winHead; split <;> rfl
@[simp] theorem State.winHead_pending (s : State) : s.winHead.pending = s.pending := by unfold State.winHead; split <;> rfl
@[simp] theorem State.winHead_gapCount (s : State) : s.winHead.le.gapCount = s.le.gapCount := by
  unfold State.winHead; split <;> rfl
@[simp] theorem State.winHead_yieldFlag (s : State) : s.winHead.le.yieldFlag = s.le.yieldFlag := by
  unfold State.winHead; split <;> rfl
@[simp] theorem State.winHead_rxBits (s : State) : s.winHead.le.rxBits = s.le.rxBits := by
  unfold State.winHead; split <;> rfl

/-- After the head is won the station is SENDING exactly where it was sending before. -/
theorem State.winHead_sending (s : State) : s.winHead.le.line = .sending ↔ s.le.line.sends = true := by
  unfold State.winHead
  split
  · rename_i h; simp [h, LineState.sends, State.onLe]
  · rename_i h; cases k : s.le.line <;> simp_all [LineState.sends]

/-! ## The gap and the head's start bit (R99, R100, R110) -/

/-- The end of a gap, field by field. -/
theorem State.endGap_eq (s : State) :
    s.endGap = { s with le := { s.le with gapCount := 0 }, au := { s.au with heard := none } } := rfl

/-- All that a start bit can do: outside IDLE nothing; while the line is open, at a station that is not HALTED, RECEIVING;
otherwise the end of the gap. -/
theorem State.openFrame_cases (s : State) :
    (s.le.line ≠ .idle ∧ s.openFrame = s) ∨
      (s.le.line = .idle ∧ 12 ≤ s.le.gapCount ∧ s.station ≠ .halted ∧ s.openFrame =
        { s with
          le := { s.le with line := .receiving, gapCount := 0, rxBits := [] }
          au := { s.au with partialFrame := [], heard := none } }) ∨
      (s.le.line = .idle ∧ (s.le.gapCount < 12 ∨ s.station = .halted) ∧ s.openFrame = s.endGap) := by
  by_cases h : s.le.line = .idle
  · by_cases k : 12 ≤ s.le.gapCount ∧ s.station ≠ .halted
    · exact .inr (.inl ⟨h, k.1, k.2, by simp [State.openFrame, h, State.lineOpen, Config.idleGap, k]; rfl⟩)
    · refine .inr (.inr ⟨h, ?_, by
        have e : ¬ (s.lineOpen = true ∧ s.station ≠ .halted) := by
          rw [State.lineOpen, decide_eq_true_eq]; exact k
        simp only [State.openFrame, h, if_true, if_neg e]⟩)
      by_cases g : s.le.gapCount < 12
      · exact .inl g
      · exact .inr (by by_contra e; exact k ⟨by omega, e⟩)
  · exact .inl ⟨h, by simp [State.openFrame, h]⟩

/-! ## The port restart (R132) -/

/-- A port restart, field by field: the state of a power-on reset with the straps kept, the frame of a running slot in hand
(log 27), and one STATE. -/
theorem State.portRestart_eq (s : State) :
    s.portRestart = State.indicate (.state .watch .restart 0 s.hp.queue.length)
      { State.afterReset s.straps s.hostData s.pending with
        au := { AcceptanceUnit.resetValue with heard := s.slotAtRestart } } := rfl

end Sys2Proof.Machine
end

