-- ==== Sys2Proof/Laws/Locks.lean ====
section
/-!
SUPPORT. What each shared lock operation can do: the lock it changes, the claim record, the indication; and that it changes
nothing else.
-/

namespace Sys2Proof.Machine

/-- What the lock operations on lock `l` leave: every block but the Table Unit and the Host Port; of those, every lock and
every claim record but that of `l`, and everything that is not a lock, a claim record or an indication. -/
def State.SameBesideLock (l : LockNo) (s t : State) : Prop :=
  t = { s with
    tu := { s.tu with locks := t.tu.locks }
    hp := { s.hp with
      claims := t.hp.claims, indications := t.hp.indications, overrun := t.hp.overrun } } ∧
  ∀ k : LockNo, k ≠ l → t.lock k = s.lock k ∧ t.claim k = s.claim k

theorem State.SameBesideLock.refl (l : LockNo) (s : State) : s.SameBesideLock l s := ⟨rfl, fun _ _ => ⟨rfl, rfl⟩⟩

theorem State.SameBesideLock.trans {l : LockNo} {s t u : State} (h : s.SameBesideLock l t) (k : t.SameBesideLock l u) :
    s.SameBesideLock l u := by
  refine ⟨?_, fun i hi => ⟨(k.2 i hi).1.trans (h.2 i hi).1, (k.2 i hi).2.trans (h.2 i hi).2⟩⟩
  rw [k.1, h.1]

theorem State.sameBesideLock_setLock (l : LockNo) (r : LockRecord) (s : State) : s.SameBesideLock l (s.setLock l r) :=
  ⟨rfl, fun k hk => ⟨by rw [State.lock_setLock]; simp [hk], rfl⟩⟩

theorem State.sameBesideLock_setClaim (l : LockNo) (c : ClaimRecord) (s : State) : s.SameBesideLock l (s.setClaim l c) :=
  ⟨rfl, fun k hk => ⟨rfl, by rw [State.claim_setClaim]; simp [hk]⟩⟩

theorem State.sameBesideLock_indicate (l : LockNo) (r : Indication) (s : State) : s.SameBesideLock l (s.indicate r) := by
  refine ⟨?_, fun k _ => ⟨rfl, by simp⟩⟩
  by_cases h : s.hp.indications.length < Config.indicationCapacity <;>
    simp [State.indicate, State.onHp, HostPort.indicate, h]

theorem State.sameBesideLock_grantHere (l : LockNo) (s : State) : s.SameBesideLock l (s.grantHere l) :=
  (s.sameBesideLock_setClaim l _).trans (State.sameBesideLock_indicate l _ _)

/-- GRANTED at the new holder: HELD with tag and withdrawals kept (R15, R18). -/
theorem State.claim_grantHere (s : State) (l : LockNo) :
    (s.grantHere l).claim l = { s.claim l with phase := .held } := by
  simp [State.grantHere, State.claim_setClaim]

/-- A pass-on (R6): to the head waiter, or free; GRANTED where the head waiter is this station. -/
theorem State.passOn_eq (s : State) (l : LockNo) :
    s.passOn l = match (s.lock l).waiters with
      | [] => s.setLock l ⟨none, []⟩
      | w :: rest => if w = s.me then (s.setLock l ⟨some w, rest⟩).grantHere l else s.setLock l ⟨some w, rest⟩ := by
  simp only [State.passOn]; rfl

/-- The lock record a pass-on leaves. -/
theorem State.lock_passOn (s : State) (l : LockNo) :
    (s.passOn l).lock l = match (s.lock l).waiters with
      | [] => ⟨none, []⟩
      | w :: rest => ⟨some w, rest⟩ := by
  rw [State.passOn_eq]
  split
  · simp [State.lock_setLock]
  · split <;> simp [State.grantHere, State.lock_setLock]

theorem State.sameBesideLock_passOn (l : LockNo) (s : State) : s.SameBesideLock l (s.passOn l) := by
  rw [State.passOn_eq]
  split
  · exact s.sameBesideLock_setLock l _
  · split
    · exact (s.sameBesideLock_setLock l _).trans (State.sameBesideLock_grantHere l _)
    · exact s.sameBesideLock_setLock l _

theorem State.sameBesideLock_claimFromReplica (l : LockNo) (s : State) : s.SameBesideLock l (s.claimFromReplica l) := by
  simp only [State.claimFromReplica]
  split
  · exact s.sameBesideLock_setClaim l _
  · split <;> exact s.sameBesideLock_setClaim l _

theorem State.sameBesideLock_applyClaim (sender : Station) (own : Bool) (tag : Octet) (l : LockNo) (v : Flavour)
    (s : State) : s.SameBesideLock l (s.applyClaim sender own tag l v) := by
  simp only [State.applyClaim]
  split
  · split
    · exact (s.sameBesideLock_setLock l _).trans (State.sameBesideLock_grantHere l _)
    · exact s.sameBesideLock_setLock l _
  · split
    · split
      · exact (State.sameBesideLock_indicate l _ s).trans (State.sameBesideLock_claimFromReplica l _)
      · exact .refl l s
    · split
      · split
        · exact ((s.sameBesideLock_setLock l _).trans (State.sameBesideLock_setClaim l _ _)).trans
            (State.sameBesideLock_indicate l _ _)
        · exact s.sameBesideLock_setLock l _
      · split
        · exact (s.sameBesideLock_setClaim l _).trans (State.sameBesideLock_indicate l _ _)
        · exact .refl l s

theorem State.sameBesideLock_applyRelease (sender : Station) (own : Bool) (tag : Octet) (l : LockNo) (s : State) :
    s.SameBesideLock l (s.applyRelease sender own tag l) := by
  simp only [State.applyRelease]
  split
  · split
    · exact ((s.sameBesideLock_passOn l).trans (State.sameBesideLock_setClaim l _ _)).trans
        (State.sameBesideLock_indicate l _ _)
    · exact s.sameBesideLock_passOn l
  · split
    · exact (State.sameBesideLock_indicate l _ s).trans (State.sameBesideLock_claimFromReplica l _)
    · exact .refl l s

theorem State.sameBesideLock_applyWithdraw (sender : Station) (own : Bool) (tag : Octet) (l : LockNo) (s : State) :
    s.SameBesideLock l (s.applyWithdraw sender own tag l) := by
  simp only [State.applyWithdraw]
  split
  · split
    · exact ((s.sameBesideLock_setLock l _).trans (State.sameBesideLock_setClaim l _ _)).trans
        (State.sameBesideLock_indicate l _ _)
    · exact s.sameBesideLock_setLock l _
  · split
    · split
      · exact (s.sameBesideLock_setClaim l _).trans (State.sameBesideLock_indicate l _ _)
      · exact .refl l s
    · split
      · exact (s.sameBesideLock_setClaim l _).trans (State.sameBesideLock_indicate l _ _)
      · exact .refl l s

theorem State.sameBesideLock_departLock (gone : Station) (l : LockNo) (s : State) :
    s.SameBesideLock l (s.departLock gone l) := by
  simp only [State.departLock]
  split
  · split
    · exact s.sameBesideLock_passOn l
    · split
      · exact s.sameBesideLock_setLock l _
      · exact .refl l s
  · exact .refl l s

theorem State.sameBesideLock_reconcileLock (l : LockNo) (s : State) : s.SameBesideLock l (s.reconcileLock l) := by
  simp only [State.reconcileLock]
  split
  · split
    · exact State.sameBesideLock_grantHere l s
    · split
      · exact .refl l s
      · exact s.sameBesideLock_setClaim l _
  · exact .refl l s

end Sys2Proof.Machine
end

