-- ==== Sys2Proof/Laws/Outcomes.lean ====
section
/-!
SUPPORT. Every command answers a next state: no command of the C16 stops the block.
-/

namespace Sys2Proof.Machine

/-- Every command completes from every state. -/
theorem exec_next (c : Instr) (s : State) : ∃ t, exec c s = .next t := by
  cases c <;> exact ⟨_, rfl⟩

/-- Every step completes from every state. -/
theorem step_next (s : State) : ∃ t, step s = .next t := by
  unfold step
  split
  · exact ⟨s.passHead, rfl⟩
  · exact exec_next _ _

/-- A command while power-on reset is asserted, where it is one that the reset pin holds off. -/
theorem State.unlessReset_of_true {s : State} (h : s.resetAsserted = true) (f : State → State) : s.unlessReset f = s := by
  simp [State.unlessReset, h]

/-- A command while power-on reset is released. -/
theorem State.unlessReset_of_false {s : State} (h : s.resetAsserted = false) (f : State → State) :
    s.unlessReset f = f s := by
  simp [State.unlessReset, h]

end Sys2Proof.Machine
end

