-- ==== Sys2Proof/Laws/Words.lean ====
section
/-!
SUPPORT. What the watch operations can do: the slots they evaluate and the indication queue, and nothing else.
-/

namespace Sys2Proof.Machine

/-- What the watch operations leave: everything but the watch slots and the indication queue. -/
def State.SameBesideWatches (s t : State) : Prop :=
  t = { s with hp := { s.hp with
    watches := t.hp.watches, indications := t.hp.indications, overrun := t.hp.overrun } }

theorem State.SameBesideWatches.refl (s : State) : s.SameBesideWatches s := rfl

theorem State.SameBesideWatches.trans {s t u : State} (h : s.SameBesideWatches t) (k : t.SameBesideWatches u) :
    s.SameBesideWatches u := by
  unfold State.SameBesideWatches at *
  rw [k, h]

theorem State.SameBesideWatches.word {s t : State} (h : s.SameBesideWatches t) (k : Station) : t.word k = s.word k := by
  rw [h]; rfl

theorem State.sameBesideWatches_setWatch (i : SlotNo) (w : WatchSlot) (s : State) :
    s.SameBesideWatches (s.setWatch i w) := rfl

theorem State.sameBesideWatches_indicate (r : Indication) (s : State) : s.SameBesideWatches (s.indicate r) := by
  by_cases h : s.hp.indications.length < Config.indicationCapacity <;>
    simp [State.SameBesideWatches, State.indicate, State.onHp, HostPort.indicate, h]

theorem State.sameBesideWatches_matchWatch (i : SlotNo) (s : State) : s.SameBesideWatches (s.matchWatch i) :=
  (State.sameBesideWatches_indicate _ s).trans (State.sameBesideWatches_setWatch i _ _)

theorem State.sameBesideWatches_evaluateWatch (changed : Station → Bool) (i : SlotNo) (s : State) :
    s.SameBesideWatches (s.evaluateWatch changed i) := by
  simp only [State.evaluateWatch]
  split
  · exact s.sameBesideWatches_matchWatch i
  · exact .refl s

/-- The evaluation of the four slots changes slots and indications alone. -/
theorem State.sameBesideWatches_evaluateWatches (changed : Station → Bool) (s : State) :
    s.SameBesideWatches (s.evaluateWatches changed) := by
  unfold State.evaluateWatches
  suffices h : ∀ (is : List SlotNo) (t : State), s.SameBesideWatches t →
      s.SameBesideWatches (is.foldl (fun t i => t.evaluateWatch changed i) t) from h _ _ (.refl s)
  intro is
  induction is with
  | nil => exact fun t h => h
  | cons i is ih => exact fun t h => ih _ (h.trans (t.sameBesideWatches_evaluateWatch changed i))

/-- One slot after its evaluation (R45): disarmed with tag 0 where it matched, otherwise as it was. -/
theorem State.watch_evaluateWatch (changed : Station → Bool) (i : SlotNo) (s : State) :
    (s.evaluateWatch changed i).watch i =
      let w := s.watch i
      if w.armed = true ∧ changed w.station = true ∧ w.holds (s.word w.station) = true then
        { w with armed := false, tag := 0 }
      else w := by
  simp only [State.evaluateWatch]
  split <;> rename_i h
  · simp_all [State.matchWatch, State.watch_setWatch]
  · simp_all

end Sys2Proof.Machine
end

