-- ==== Sys2Proof/WellFormed.lean ====
section
/-!
DEFINITION. Well-formed commands: the operand of a row is one that the row's event can carry.
-/

namespace Sys2Proof

/-- Whether a command's operand is one the row's event carries. A write to PORT CONTROL names its row's command, RESTART
overriding the other two (R172); a winning head is lower than the highest head a station sends, CFh (R67, Table 4-2);
a collision is at the stop bit of the head or later, and not at a start bit, which is sent dominant (R105); the
characters of a frame's end are exactly the frame (R68). -/
def Instr.wellFormed : Instr → Bool
  | .restart o => o.getLsbD 0
  | .clearOverrun o => !o.getLsbD 0 && o.getLsbD 1
  | .rewind o => !o.getLsbD 0 && o.getLsbD 2
  | .lostArbitration head => decide (head.toNat < 0xCF)
  | .collision position => decide (9 ≤ position) && position % 10 != 0
  | .frameEnd chars => Machine.completeFrame chars == some chars
  | .powerOnReset _ _ => true
  | .irqEnable _ => true
  | .indicationWindow => true
  | .registerWrite _ _ => true
  | .commitUnknownKind _ => true
  | .commitJoin _ => true
  | .commitLeave _ => true
  | .commitClaim _ => true
  | .commitTryClaim _ => true
  | .commitRelease _ => true
  | .commitWithdraw _ => true
  | .commitArrive _ => true
  | .commitAbandon _ => true
  | .commitPublish _ => true
  | .commitPost _ => true
  | .commitCancel _ => true
  | .armWatch _ => true
  | .disarmWatch _ => true
  | .queryLock _ => true
  | .queryBarrier _ => true
  | .queryRoster _ => true
  | .queryWord _ => true
  | .quietWatchExpiry => true
  | .presenceTimerExpiry => true
  | .silenceTimerExpiry _ => true
  | .transferTimerExpiry => true
  | .clearGap => true
  | .contentionPoint => true
  | .driverFault => true
  | .stall => true
  | .lineHeldBegin => true
  | .lineHeldEnd => true
  | .slotWindowEnd _ => true
  | .startBit => true
  | .dominantBeforeOpen => true
  | .resetnAsserted => true

end Sys2Proof
end

