-- ==== Sys2Proof/Tests/Slice0.lean ====
section
/-!
SUPPORT. Small tests, each of one step on a small state: the checks of WellFormed; the manual's worked examples, named by
their tables; the command rows the examples do not reach; and for every statement of Obligations.lean with hypotheses a
concrete case that meets them, at the boundary values of its clauses.
-/

namespace Sys2Proof.Tests

open Machine

set_option maxRecDepth 8000

/-! ## Helpers -/

/-- The state a command leaves; every command answers a next state. -/
def after (c : Instr) (s : State) : State :=
  match exec c s with
  | .next t => t
  | .fault _ => s
  | .refused _ => s

/-- An IN STEP station of a cluster of MEMBERs, order number 1200h, nothing else in any record. -/
def cluster (me : Station) (members : List Station) : State :=
  { State.reset with
    straps := ⟨me, 0⟩
    au := ⟨0x1200, true, false, [], none⟩
    tu := { TableUnit.resetValue with
      roster := members.foldl (fun v (t : Station) => v.set t ⟨.member, allPartsSet⟩) (Vector.replicate 16 absentEntry)
      installed := allPartsSet }
    mc := ⟨.inStep, .joined, .cleared, .running 4096, .cleared, Vector.replicate 16 .cleared⟩ }

/-- The same station in another station state. -/
def inState (state : StationState) (s : State) : State := { s with mc := { s.mc with state := state } }

/-- An OUTSIDE station, with an empty replica. -/
def outsider (me : Station) : State := inState .outside { State.reset with straps := ⟨me, 0⟩ }

/-- A JOINING station with some parts installed. -/
def joiner (me : Station) (members : List Station) (parts : PartSet) : State :=
  let s := inState .joining (cluster me members)
  { (s.setEntry me ⟨.joining, parts⟩) with tu := { (s.setEntry me ⟨.joining, parts⟩).tu with installed := parts } }

/-- At the end of the slot of a frame. -/
def inSlot (h : HeardFrame) (s : State) : State :=
  { s with le := { s.le with line := .slot }, au := { s.au with heard := some h } }

/-- A peer's frame with the station's own number, its slot about to end. -/
def hearing (sender : Station) (body : FrameBody) (s : State) : State :=
  inSlot ⟨.good ⟨sender, s.au.order, body⟩, .none, false⟩ s

/-- The station's own frame for an item, its slot about to end. -/
def sent (item : Item) (body : FrameBody) (s : State) : State :=
  let f : Frame := ⟨s.me, s.au.order, body⟩
  { inSlot ⟨.good f, .none, true⟩ s with ss := ⟨some ⟨f, some item⟩, some item, 0⟩ }

/-- The station's own frame for a request at the head of its queue, in its slot. -/
def sentRequest (tag : Octet) (request : RequestBody) (body : FrameBody) (s : State) : State :=
  sent (.request tag) body { s with hp := { s.hp with queue := ⟨request, tag, true, false⟩ :: s.hp.queue } }

/-- A request at the tail of the queue, not in attempt. -/
def queued (tag : Octet) (request : RequestBody) (s : State) : State := s.enqueue request tag

/-- A request at the head of the queue with its frame on the line. -/
def onLine (tag : Octet) (request : RequestBody) (body : FrameBody) (s : State) : State :=
  let f : Frame := ⟨s.me, s.au.order, body⟩
  { s with
    le := { s.le with line := .contending }
    ss := ⟨some ⟨f, some (.request tag)⟩, some (.request tag), 0⟩
    hp := { s.hp with queue := ⟨request, tag, true, false⟩ :: s.hp.queue } }

/-- REQUEST A to D written. -/
def asking (kind : RequestKind) (b c d : Octet) (s : State) : State :=
  { s with hp := { s.hp with requestA := kind.code, requestB := b, requestC := c, requestD := d } }

/-- Some indications in the queue. -/
def holding (rs : List Indication) (s : State) : State := { s with hp := { s.hp with indications := rs } }

/-! ## WellFormed: an ill-formed term for each check, which the check refuses -/

theorem test_wellFormed_restart_needs_bit_0 : Instr.wellFormed (.restart 0x06) = false := by decide
theorem test_wellFormed_clearOverrun_needs_restart_clear : Instr.wellFormed (.clearOverrun 0x03) = false := by decide
theorem test_wellFormed_clearOverrun_needs_bit_1 : Instr.wellFormed (.clearOverrun 0x04) = false := by decide
theorem test_wellFormed_rewind_needs_restart_clear : Instr.wellFormed (.rewind 0x05) = false := by decide
theorem test_wellFormed_rewind_needs_bit_2 : Instr.wellFormed (.rewind 0x02) = false := by decide
theorem test_wellFormed_winning_head_below_highest : Instr.wellFormed (.lostArbitration 0xCF) = false := by decide
theorem test_wellFormed_collision_after_head : Instr.wellFormed (.collision 8) = false := by decide
theorem test_wellFormed_collision_not_at_start_bit : Instr.wellFormed (.collision 10) = false := by decide
theorem test_wellFormed_frameEnd_whole : Instr.wellFormed (.frameEnd [⟨0xC4, false⟩]) = false := by decide
theorem test_wellFormed_accepts_its_rows :
    Instr.wellFormed (.restart 0x01) = true ∧ Instr.wellFormed (.clearOverrun 0x06) = true ∧
      Instr.wellFormed (.rewind 0x04) = true ∧ Instr.wellFormed (.lostArbitration 0xCE) = true ∧
      Instr.wellFormed (.collision 9) = true := by decide

/-! ## Decode: no row has bits (log 2) -/

theorem test_decode_none : decodeTableWord 8 0x12 = none := by decide
theorem test_withFetchWord_unchanged : State.reset.withFetchWord 8 0x12 = State.reset := by decide

/-! ## Frames -/

/-- The check's polynomial and start value (R73) on the digits 1 to 9: the published check value 29B1h. -/
theorem test_check_of_digits : checkOf [0x31, 0x32, 0x33, 0x34, 0x35, 0x36, 0x37, 0x38, 0x39] = 0x29B1 := by decide

/-- Table 4-4: the heads of an EVICT from 6, a CLAIM from 2 and a PRESENCE from 0. -/
theorem test_heads_table_4_4 :
    (Frame.mk 6 0 (.evict 1)).head = 0x06 ∧ (Frame.mk 2 0 (.claim 5 .wait)).head = 0x62 ∧
      (Frame.mk 0 0 .presence).head = 0xC0 := by decide

/-- Table 12-1 and 12-2: a PUBLISH of 0042h from station 9 with order number 1234h, without its check. -/
theorem test_publish_octets : (Frame.mk 9 0x1234 (.publish 0x0042)).checked = [0x99, 0x12, 0x34, 0x00, 0x42] := by decide

/-- A clean frame is classed good with its fields; one data bit changed is a bad check (R76). -/
theorem test_frame_classified :
    classify (cleanCharacters (Frame.mk 9 0x1234 (.arrive 7 16)).octets) = .good ⟨9, 0x1234, .arrive 7 16⟩ ∧
      classify (cleanCharacters (0x98 :: (Frame.mk 9 0x1234 (.publish 0x0042)).octets.drop 1)) = .badCheck := by decide

/-! ## Chapter 1: Table 1-4 (station 2, lock 5, held by 7 with 4 waiting) -/

/-- The start of Table 1-4. -/
def lockFive : State := (cluster 2 [2, 4, 7]).setLock 5 ⟨some 7, [4]⟩

theorem test_commit_claim_table_1_4 :
    let t := after (.commitClaim 21) (asking .claim 5 0 0 lockFive)
    t.claim 5 = ⟨.claimQueued, 21, 0⟩ ∧ t.hp.queue = [⟨.claim 5, 21, false, false⟩] ∧ t.hp.commitResult = .accepted := by
  decide

theorem test_commit_withdraw_in_attempt_table_1_4 :
    let s := (onLine 21 (.claim 5) (.claim 5 .wait) lockFive).setClaim 5 ⟨.claimQueued, 21, 0⟩
    let t := after (.commitWithdraw 22) (asking .withdraw 5 0 0 s)
    t.claim 5 = ⟨.claimQueued, 21, 1⟩ ∧ t.hp.queue.map (·.tag) = [21, 22] := by
  decide

theorem test_claim_accepted_table_1_4 :
    let s := (sentRequest 21 (.claim 5) (.claim 5 .wait) (queued 22 (.withdraw 5) lockFive)).setClaim 5 ⟨.claimQueued, 21, 1⟩
    let t := after (.slotWindowEnd .nothing) s
    t.lock 5 = ⟨some 7, [4, 2]⟩ ∧ t.claim 5 = ⟨.withdrawQueued, 21, 1⟩ ∧ t.hp.indications = [⟨.waiting, 21, 5, 2, 0⟩] := by
  decide

theorem test_release_heard_table_1_4 :
    let s := (hearing 7 (.release 5) (lockFive.setLock 5 ⟨some 7, [4, 2]⟩)).setClaim 5 ⟨.withdrawQueued, 21, 1⟩
    let t := after (.slotWindowEnd .nothing) s
    t.lock 5 = ⟨some 4, [2]⟩ ∧ t.claim 5 = ⟨.withdrawQueued, 21, 1⟩ ∧ t.hp.indications = [] := by
  decide

theorem test_withdraw_accepted_table_1_4 :
    let s := (sentRequest 22 (.withdraw 5) (.withdraw 5) (lockFive.setLock 5 ⟨some 4, [2]⟩)).setClaim 5
      ⟨.withdrawQueued, 21, 1⟩
    let t := after (.slotWindowEnd .nothing) s
    t.lock 5 = ⟨some 4, []⟩ ∧ t.claim 5 = ⟨.none, 0, 0⟩ ∧ t.hp.queue = [] ∧
      t.hp.indications = [⟨.withdrawn, 21, 5, 0, 0⟩] := by
  decide

/-! ## Chapter 2: Tables 2-3 and 2-4 -/

theorem test_arrive_mismatch_table_2_3 :
    let s := ((cluster 6 [1, 3, 6]).setBarrier 2 ⟨14, 3, 0x000A⟩).setArrival 2 ⟨.arriveQueued, 77, none⟩
    let t := after (.slotWindowEnd .nothing) (sentRequest 77 (.arrive 2 4) (.arrive 2 4) s)
    t.barrier 2 = ⟨14, 3, 0x000A⟩ ∧ t.arrival 2 = ⟨.none, 0, none⟩ ∧ t.hp.indications = [⟨.refused, 77, 0x04, 2, 3⟩] := by
  decide

theorem test_arrive_opens_table_2_3 :
    let s := ((cluster 1 [1, 3, 6]).setBarrier 2 ⟨14, 3, 0x000A⟩).setArrival 2 ⟨.arrived, 40, some 14⟩
    let t := after (.slotWindowEnd .nothing) (hearing 6 (.arrive 2 3) s)
    t.barrier 2 = ⟨15, 0, 0⟩ ∧ t.arrival 2 = ⟨.none, 0, none⟩ ∧ t.hp.indications = [⟨.barrierOpen, 40, 2, 14, 3⟩] := by
  decide

theorem test_evict_breaks_barrier_table_2_3 :
    let s := ((cluster 1 [1, 3, 6]).setBarrier 2 ⟨15, 3, 0x000A⟩).setArrival 2 ⟨.arrived, 41, some 15⟩
    let t := after (.slotWindowEnd .nothing) (hearing 6 (.evict 3) s)
    t.barrier 2 = ⟨16, 0, 0⟩ ∧ t.hp.indications = [⟨.peerLost, 0, 3, 6, 0⟩, ⟨.barrierBroken, 41, 2, 15, 3⟩] := by
  decide

theorem test_abandon_too_late_table_2_4 :
    let s := queued 31 (.abandon 0) (cluster 5 [2, 5])
    let t := after .contentionPoint s
    t.hp.queue = [] ∧ t.ss.attempt = none ∧ t.hp.indications = [⟨.tooLate, 31, 0x08, 0, 0⟩] := by
  decide

/-! ## Chapter 3: Tables 3-2 and 3-3 (station 1) -/

/-- Station 1 before the JOIN from 9. -/
def beforeRejoin : State :=
  let s := (((cluster 1 [1, 4, 9]).setLock 2 ⟨some 9, [4]⟩).setLock 6 ⟨some 9, [1, 4]⟩).setBarrier 3 ⟨20, 3, 0x0210⟩
  ((s.setWord 9 0x0042).setClaim 6 ⟨.waiting, 33, 0⟩).setWatch 0 ⟨true, 50, 9, .equal, 0x0000⟩

theorem test_rejoin_table_3_2 :
    let t := after (.slotWindowEnd .nothing) (hearing 9 (.join false) beforeRejoin)
    t.entry 9 = ⟨.joining, 0⟩ ∧ t.lock 2 = ⟨some 4, []⟩ ∧ t.lock 6 = ⟨some 1, [4]⟩ ∧ t.barrier 3 = ⟨21, 0, 0⟩ ∧
      t.word 9 = 0 := by
  decide

theorem test_rejoin_indications_table_3_3 :
    (after (.slotWindowEnd .nothing) (hearing 9 (.join false) beforeRejoin)).hp.indications =
      [⟨.peerJoined, 0, 9, 0x01, 0⟩, ⟨.granted, 33, 6, 0, 0⟩, ⟨.watchMatched, 50, 9, 0, 0⟩] := by
  decide

/-! ## Chapter 5: Tables 5-3 and 5-4 -/

theorem test_behind_frame_drawn_order_table_5_3 :
    let s := { cluster 2 [2, 5, 8] with le := { (cluster 2 [2, 5, 8]).le with line := .receiving } }
    let t := after (.frameEnd (cleanCharacters (Frame.mk 8 0x11FF (.claim 3 .wait)).octets)) s
    t.driver = .objection 0x3C := by
  decide

theorem test_order_on_own_frame_table_5_3 :
    let s := sentRequest 12 (.claim 3) (.claim 3 .wait) (cluster 8 [2, 5, 8])
    let t := after (.slotWindowEnd (.startBit 0x3C)) s
    t.station = .diverged ∧ t.au.order = 0x1200 ∧ t.au.orderHold = true ∧ t.hp.queue.length = 1 ∧
      t.hp.indications = [⟨.state, 0, 4, 0x05, 0⟩] := by
  decide

theorem test_founding_table_5_4 :
    let s := sentRequest 9 .join (.join true) (outsider 3)
    let t := after (.slotWindowEnd .nothing) s
    t.station = .inStep ∧ t.au.order = 0x0001 ∧ t.entry 3 = ⟨.member, allPartsSet⟩ ∧
      t.hp.indications = [⟨.state, 9, 3, 0x01, 0⟩] := by
  decide

/-! ## Chapter 6: Table 6-4 and the objection reports -/

theorem test_lost_arbitration_table_6_4 :
    let s := onLine 3 (.claim 7) (.claim 7 .wait) (cluster 4 [1, 4, 7])
    let t := after (.lostArbitration 0x41) s
    t.le.line = .receiving ∧ t.le.yieldFlag = false ∧ t.le.rxBits = [false, true, false] ∧ t.ss.counter = 0 := by
  decide

theorem test_own_release_accepted_sets_yield_table_6_4 :
    let s := sentRequest 3 (.release 7) (.release 7) ((cluster 1 [1, 4, 7]).setLock 7 ⟨some 1, []⟩)
    let t := after (.slotWindowEnd .nothing) (s.setClaim 7 ⟨.releaseQueued, 2, 0⟩)
    t.le.line = .idle ∧ t.le.yieldFlag = true ∧ t.hp.indications = [⟨.released, 3, 7, 0, 0⟩] := by
  decide

theorem test_clear_gap_clears_yield_table_6_4 :
    (after .clearGap { State.reset with le := ⟨.idle, 12, true, []⟩ }).le = ⟨.idle, 24, false, []⟩ := by decide

theorem test_held_line_table_6_5 :
    let s := { cluster 2 [2, 5, 9] with le := ⟨.receiving, 12, false, [true]⟩ }
    let t := after .lineHeldBegin s
    t.le = ⟨.held, 12, false, []⟩ ∧ t.hp.indications = [⟨.lineHeld, 0, 0, 0, 0⟩] ∧ (t.hostRead 0).getLsbD 4 = true := by
  decide

theorem test_held_line_ends_table_6_5 :
    (after .lineHeldEnd { State.reset with le := ⟨.held, 12, false, []⟩ }).le = ⟨.idle, 0, false, []⟩ := by decide

/-- Two objections drive one slot, and the line carries the dominant bits of both: 00h and 3Ch read 00h (Table 5-1). -/
theorem test_reject_read_over_order_table_5_1 : slotOutcome (slotReport (.startBit 0x00)) = .rejected := by decide

/-! ## Chapter 7: Tables 7-4 and 7-5 -/

theorem test_silence_expiry_makes_evict_pending_table_7_4 :
    let s := (cluster 1 [1, 3, 6]).setSilence 6 (.running 32768)
    let t := after (.silenceTimerExpiry 6) s
    t.evictPending 6 = true ∧ t.choose = some (.evict 6) := by
  decide

theorem test_evict_accepted_table_7_4 :
    let s := (((cluster 3 [1, 3, 6]).setLock 2 ⟨some 6, [3]⟩).setClaim 2 ⟨.waiting, 8, 0⟩).setSilence 6 .expired
    let t := after (.slotWindowEnd .nothing) (hearing 1 (.evict 6) s)
    t.evictPending 6 = false ∧ t.claim 2 = ⟨.held, 8, 0⟩ ∧
      t.hp.indications = [⟨.peerLost, 0, 6, 1, 0⟩, ⟨.granted, 8, 2, 0, 0⟩] := by
  decide

theorem test_reject_counts_table_7_5 :
    let t := after (.slotWindowEnd (.startBit 0x00)) (sentRequest 17 (.publish 5) (.publish 5) (cluster 4 [4, 9]))
    t.ss = ⟨none, some (.request 17), 1⟩ ∧ t.hp.queue = [⟨.publish 5, 17, false, false⟩] := by
  decide

theorem test_other_item_starts_count_table_7_5 :
    let s := (queued 17 (.publish 5) (cluster 4 [4, 9])).setSilence 9 .expired
    let t := after .contentionPoint { s with ss := ⟨none, some (.request 17), 2⟩ }
    t.ss.counted = some (.evict 9) ∧ t.ss.counter = 0 ∧ t.le.line = .contending := by
  decide

theorem test_cancel_marks_table_7_5 :
    let s := onLine 17 (.publish 5) (.publish 5) (cluster 4 [4, 9])
    let t := after (.commitCancel 0) (asking .cancel 17 0 0 s)
    t.hp.queue = [⟨.publish 5, 17, true, true⟩] ∧ t.hp.answerA = 0x02 := by
  decide

theorem test_marked_collision_table_7_5 :
    let s := onLine 17 (.publish 5) (.publish 5) (cluster 4 [4, 9])
    let t := after (.collision 9) { s with hp := { s.hp with queue := [⟨.publish 5, 17, true, true⟩] } }
    t.ss = ⟨none, none, 0⟩ ∧ t.hp.queue = [] ∧ t.hp.indications = [⟨.cancelled, 17, 0x09, 0, 0⟩] := by
  decide

/-! ## Chapter 8: Table 8-5 (station 7) -/

/-- The start of Table 8-5. -/
def beforeDivergence : State :=
  (queued 6 (.publish 1) (queued 5 (.claim 4) (cluster 7 [2, 7, 10]))).setClaim 4 ⟨.claimQueued, 5, 0⟩

theorem test_ahead_frame_table_8_5 :
    let s := inSlot ⟨.good ⟨2, 0x1201, .presence⟩, .none, false⟩ beforeDivergence
    let t := after (.slotWindowEnd .nothing) s
    t.station = .diverged ∧ t.resyncPending = true ∧ t.hp.queue.length = 2 ∧ t.au.order = 0x1202 ∧
      t.hp.indications = [⟨.state, 0, 4, 0x04, 0⟩] := by
  decide

theorem test_evicted_table_8_5 :
    let t := after (.slotWindowEnd .nothing) (hearing 2 (.evict 7) (inState .diverged beforeDivergence))
    t.station = .outside ∧ t.hp.queue = [] ∧ t.claim 4 = ⟨.none, 0, 0⟩ ∧ t.tu = emptyReplica ∧
      t.hp.indications = [⟨.state, 0, 1, 0x07, 2⟩] := by
  decide

theorem test_join_accepted_table_8_5 :
    let s := sentRequest 11 .join (.join false) { outsider 7 with au := ⟨0x1300, true, false, [], none⟩ }
    let t := after (.slotWindowEnd .nothing) s
    t.station = .joining ∧ t.mc.joiningCause = .joined ∧ t.mc.transfer = .running 32768 ∧
      t.hp.indications = [⟨.state, 11, 2, 0x02, 0⟩] := by
  decide

/-! ## Chapter 9: Table 9-2 (stations 5 and 9) -/

/-- Station 5 with 9 JOINING, parts 0 to 7 installed, lock 30 held by 2 with 5 waiting. -/
def beforeLeave : State :=
  (((cluster 5 [2, 5]).setEntry 9 ⟨.joining, 0x00FF⟩).setLock 30 ⟨some 2, [5]⟩).setClaim 30 ⟨.waiting, 4, 0⟩

theorem test_source_leaves_table_9_2 :
    let t := after (.slotWindowEnd .nothing) (hearing 2 .leave beforeLeave)
    rosterSource t.tu.roster = some 5 ∧ t.lock 30 = ⟨some 5, []⟩ ∧
      t.hp.indications = [⟨.peerLeft, 0, 2, 0, 0⟩, ⟨.granted, 4, 30, 0, 0⟩] := by
  decide

theorem test_last_part_table_9_2 :
    let s := joiner 9 [5] 0x0FFF
    let t := after (.slotWindowEnd .nothing) (hearing 5 (.snapshot (.words 1 (Vector.replicate 8 0))) s)
    t.station = .inStep ∧ t.entry 9 = ⟨.member, allPartsSet⟩ ∧ t.hp.indications = [⟨.state, 0, 3, 0x02, 0⟩] := by
  decide

/-! ## Chapter 10: Table 10-4 (station 6) -/

/-- The start of Table 10-4. -/
def twoRecords : State :=
  let s := holding [⟨.waiting, 40, 1, 1, 0⟩, ⟨.published, 41, 0, 0, 0⟩] (cluster 6 [6, 7])
  { s with hp := { s.hp with irqPending := true } }

theorem test_window_read_table_10_4 :
    let t := after .indicationWindow twoRecords
    t.hostData = IndicationKind.code .waiting ∧ t.hp.readPos = 1 ∧ t.hp.indications.length = 2 ∧ t.hirqAsserted = true := by
  decide

theorem test_rewind_table_10_4 :
    (after (.rewind 0x04) { twoRecords with hp := { twoRecords.hp with readPos := 2 } }).hp.readPos = 0 := by decide

theorem test_last_octet_removes_record_table_10_4 :
    let s := holding [⟨.granted, 40, 1, 0, 0x5A⟩] twoRecords
    let t := after .indicationWindow { s with hp := { s.hp with readPos := 4 } }
    t.hostData = 0x5A ∧ t.hp.indications = [] ∧ t.hp.readPos = 0 ∧ t.hirqAsserted = false := by
  decide

theorem test_empty_window_table_10_4 :
    (after .indicationWindow { State.reset with hostData := 0x77 }).hostData = 0x00 := by decide

/-! ## The rows the examples do not reach -/

theorem test_restart_counts_discarded :
    let t := after (.restart 0x07) (queued 6 (.publish 1) (queued 5 (.claim 4) (cluster 7 [2, 7])))
    t.station = .watch ∧ t.straps.station = 7 ∧ t.hp.indications = [⟨.state, 0, 0, 0x0B, 2⟩] ∧ t.hp.queue = [] := by
  decide
theorem test_power_on_reset_samples_straps : (after (.powerOnReset 11 2) (cluster 7 [2, 7])).straps = ⟨11, 2⟩ := by decide
theorem test_reset_pin_ends_attempt :
    let t := after .resetnAsserted (onLine 5 (.publish 1) (.publish 1) (cluster 7 [2, 7]))
    t.ss.attempt = none ∧ t.driver = .released ∧ t.hp.queue = [⟨.publish 1, 5, false, false⟩] := by
  decide
theorem test_clear_overrun :
    (after (.clearOverrun 0x02) { State.reset with hp := { State.reset.hp with overrun := true } }).hp.overrun = false := by
  decide
theorem test_irq_enable_sets_both : (after (.irqEnable 0x02) twoRecords).hp.irqPending = false ∧
    (after (.irqEnable 0x02) twoRecords).hp.irqOverrun = true := by decide
theorem test_register_write : (after (.registerWrite .requestC 0x9C) State.reset).hp.requestC = 0x9C := by decide
theorem test_commit_unknown_kind :
    (after (.commitUnknownKind 7) { State.reset with hp := { State.reset.hp with requestA := 0x12 } }).hp.commitResult =
      .unknownKind := by decide
theorem test_commit_join_in_watch : (after (.commitJoin 7) (asking .join 0 0 0 State.reset)).hp.queue =
    [⟨.join, 7, false, false⟩] := by decide
theorem test_commit_join_inside : (after (.commitJoin 7) (asking .join 0 0 0 (cluster 1 [1]))).hp.commitResult =
    .alreadyMember := by decide
theorem test_commit_leave_joining_cancels_all :
    let s := queued 5 (.publish 1) (joiner 9 [5] 0x0001)
    let t := after (.commitLeave 6) (asking .leave 0 0 0 s)
    t.hp.queue = [⟨.leave, 6, false, false⟩] ∧ t.hp.indications = [⟨.cancelled, 5, 0x09, 0, 0⟩] ∧ t.hp.answerA = 1 := by
  decide
theorem test_commit_leave_in_step_waits :
    (after (.commitLeave 6) (asking .leave 0 0 0 (queued 5 (.publish 1) (cluster 9 [5, 9])))).hp.queue.map (·.tag) =
      [5, 6] := by decide
theorem test_commit_try_claim_range : (after (.commitTryClaim 6) (asking .tryClaim 32 0 0 lockFive)).hp.commitResult =
    .range := by decide
theorem test_commit_release_not_holder :
    (after (.commitRelease 6) (asking .release 5 0 0 lockFive)).hp.commitResult = .notHolder := by decide
theorem test_commit_withdraw_local :
    let s := (queued 21 (.claim 5) lockFive).setClaim 5 ⟨.claimQueued, 21, 0⟩
    let t := after (.commitWithdraw 22) (asking .withdraw 5 0 0 s)
    t.hp.queue = [] ∧ t.claim 5 = ⟨.none, 0, 0⟩ ∧ t.hp.indications = [⟨.withdrawn, 21, 5, 0, 0⟩] := by
  decide
theorem test_commit_arrive_count_one_is_range :
    (after (.commitArrive 6) (asking .arrive 7 1 0 lockFive)).hp.commitResult = .range := by decide
theorem test_commit_arrive_queues :
    (after (.commitArrive 6) (asking .arrive 7 16 0 lockFive)).arrival 7 = ⟨.arriveQueued, 6, none⟩ := by decide
theorem test_commit_abandon_queued_behind_attempt_table_2_4 :
    let s := (onLine 30 (.arrive 0 2) (.arrive 0 2) (cluster 5 [2, 5])).setArrival 0 ⟨.arriveQueued, 30, none⟩
    let t := after (.commitAbandon 31) (asking .abandon 0 0 0 s)
    t.arrival 0 = ⟨.abandonQueued, 30, none⟩ ∧ t.hp.queue.map (·.tag) = [30, 31] := by
  decide
theorem test_commit_publish_high_octet_first :
    (after (.commitPublish 6) (asking .publish 0x12 0x34 0 lockFive)).hp.queue = [⟨.publish 0x1234, 6, false, false⟩] := by
  decide
theorem test_commit_post_queues :
    (after (.commitPost 6) (asking .post 15 0x34 0 lockFive)).hp.queue = [⟨.post 15 0x34, 6, false, false⟩] := by decide
theorem test_commit_cancel_unknown_tag :
    (after (.commitCancel 0) (asking .cancel 9 0 0 lockFive)).hp.commitResult = .unknownTag := by decide
theorem test_arm_watch_matches_at_once :
    let t := after (.armWatch 50) (asking .armWatch 0xC9 0x00 0x42 ((cluster 1 [1, 9]).setWord 9 0x0042))
    t.hp.indications = [⟨.watchMatched, 50, 9, 0x00, 0x42⟩] ∧ (t.watch 3).armed = false ∧ t.hp.answerA = 3 ∧
      t.hp.answerD = 0x42 := by
  decide
theorem test_arm_watch_condition_3_is_range :
    (after (.armWatch 50) (asking .armWatch 0xF9 0x00 0x42 (cluster 1 [1, 9]))).hp.commitResult = .range := by decide
theorem test_disarm_watch :
    let t := after (.disarmWatch 0) (asking .disarmWatch 0 0 0 beforeRejoin)
    (t.watch 0).armed = false ∧ (t.watch 0).tag = 0 ∧ t.hp.answerB = 0x01 := by
  decide
theorem test_query_lock :
    let t := after (.queryLock 0) (asking .queryLock 6 0 0 beforeRejoin)
    t.hp.answerA = 9 ∧ t.hp.answerB = 2 ∧ t.hp.answerC = 1 ∧ t.hp.answerD = ClaimPhase.code .waiting := by
  decide
theorem test_query_barrier :
    let t := after (.queryBarrier 0) (asking .queryBarrier 3 0 0 beforeRejoin)
    t.hp.answerA = 20 ∧ t.hp.answerB = 3 ∧ t.hp.answerC = 2 ∧ t.hp.answerD = 0 := by
  decide
theorem test_query_roster :
    let t := after (.queryRoster 0) (asking .queryRoster 9 0 0 beforeLeave)
    t.hp.answerA = Standing.code .joining ∧ t.hp.answerB = 0 ∧ t.hp.answerC = 0xFF ∧ t.hp.answerD = 2 := by
  decide
theorem test_query_word :
    let t := after (.queryWord 0) (asking .queryWord 9 0 0 beforeRejoin)
    t.hp.answerA = Standing.code .member ∧ t.hp.answerC = 0x00 ∧ t.hp.answerD = 0x42 := by
  decide
theorem test_quiet_watch_ends : (after .quietWatchExpiry State.reset).station = .outside := by decide
theorem test_presence_expiry_makes_presence_pending :
    (after .presenceTimerExpiry (cluster 1 [1])).choose = some .presence := by decide
theorem test_transfer_expiry_loses_cluster :
    let s := joiner 9 [5] 0x0001
    let t := after .transferTimerExpiry { s with mc := { s.mc with transfer := .running 32768 } }
    t.station = .outside ∧ t.au.clusterKnown = false ∧ t.hp.indications = [⟨.state, 0, 1, 0x08, 0⟩] := by
  decide
theorem test_driver_fault_halts :
    let t := after .driverFault (onLine 5 (.publish 1) (.publish 1) (cluster 7 [2, 7]))
    t.station = .halted ∧ t.ss.attempt = none ∧ t.hp.indications = [⟨.state, 0, 5, 0x09, 1⟩] := by
  decide
theorem test_stall_drops_frame :
    (after .stall { State.reset with le := ⟨.receiving, 12, false, [true]⟩ }).le = ⟨.idle, 0, false, []⟩ := by decide
/-- The same station with its gap count at some length. -/
def afterGap (t : Nat) (s : State) : State := { s with le := { s.le with gapCount := t } }

theorem test_start_bit_opens_frame :
    (after .startBit (afterGap 12 (cluster 1 [1]))).le = ⟨.receiving, 0, false, []⟩ := by decide
theorem test_start_bit_before_open_is_discarded :
    (after .startBit (afterGap 11 (cluster 1 [1]))).le = ⟨.idle, 0, false, []⟩ := by decide
theorem test_own_start_bit_ends_gap :
    (after .contentionPoint (afterGap 12 (queued 3 (.post 4 9) (cluster 4 [4])))).le = ⟨.contending, 0, false, []⟩ := by decide
theorem test_head_won_on_empty_queue :
    let s := onLine 5 (.publish 1) (.publish 1) (cluster 7 [2, 7])
    step s = .next { s with le := ⟨.sending, 0, false, []⟩ } ∧
      (after (.lostArbitration 0x00) { s with le := ⟨.sending, 0, false, []⟩ }).le.line = .sending := ⟨rfl, by decide⟩
theorem test_slot_end_after_restart_is_tracked :
    let t := after (.slotWindowEnd .nothing) (after (.restart 0x01) (hearing 2 .presence (cluster 7 [2, 7])))
    t.station = .watch ∧ t.au = ⟨0x1201, true, false, [], none⟩ := by decide
theorem test_dominant_before_open :
    (after .dominantBeforeOpen { State.reset with le := ⟨.idle, 5, true, []⟩ }).le = ⟨.idle, 0, true, []⟩ := by decide
theorem test_duplicate_station_halts :
    let t := after (.slotWindowEnd .nothing) (hearing 7 .presence (cluster 7 [2, 7]))
    t.station = .halted ∧ t.hp.indications = [⟨.state, 0, 5, 0x0A, 0⟩] := by
  decide

/-! ## Witnesses: the hypotheses of each statement met together, at the boundary values of its clauses -/

theorem test_witness_StepRunsFrontCommand :
    let s := onLine 5 (.publish 1) (.publish 1) (cluster 7 [2, 7])
    s.pending = [] ∧ s.resetAsserted = false ∧ s.le.line = .contending ∧ State.reset.pending = [] ∧
      State.reset.le.line ≠ .contending := by decide

theorem test_witness_ResetMeetsInvariants : State.reset.hostData = 0 ∧ State.reset.pending = [] := by decide

theorem test_witness_ResetAssertedHolds :
    { State.reset with resetAsserted := true }.resetAsserted = true ∧ Instr.clearGap ≠ .resetnAsserted ∧
      ∀ n b, Instr.clearGap ≠ .powerOnReset n b :=
  ⟨by decide, by decide, nofun⟩

theorem test_witness_PortControlWritten :
    let h : HeardFrame := ⟨.good ⟨2, 0x1200, .presence⟩, .none, false⟩
    (cluster 7 [7]).resetAsserted = false ∧ (0x07 : Octet).getLsbD 0 = true ∧ (0x06 : Octet).getLsbD 0 = false ∧
      (inSlot h (cluster 7 [2, 7])).inSlotOf h = true := by decide

theorem test_witness_IndicationWindowReads :
    State.reset.resetAsserted = false ∧ State.reset.hp.indications = [] ∧ twoRecords.resetAsserted = false ∧
      twoRecords.hp.indications = [⟨.waiting, 40, 1, 1, 0⟩, ⟨.published, 41, 0, 0, 0⟩] ∧ twoRecords.hp.readPos = 0 := by
  decide
theorem test_witness_IndicationWindowReads_each_position :
    ∀ p : Fin 5, { twoRecords with hp := { twoRecords.hp with readPos := p } }.hp.indications =
      [⟨.waiting, 40, 1, 1, 0⟩, ⟨.published, 41, 0, 0, 0⟩] := by decide

theorem test_witness_HostWritesStored : State.reset.resetAsserted = false := by decide

/-- A queue of some number of records. -/
def records (n : Nat) : List Indication := List.replicate n ⟨.lineHeld, 0, 0, 0, 0⟩

theorem test_witness_IndicationQueued :
    (holding (records 15) State.reset).hp.indications.length < 16 ∧
      16 ≤ (holding (records 16) State.reset).hp.indications.length := by decide

theorem test_witness_CommitUnknownAndJoinChecked :
    State.reset.hp.requestA = 0 ∧ 0x11 < { State.reset.hp with requestA := 0x12 }.requestA.toNat ∧
      (asking .join 0 0 0 (outsider 3)).commits .join = true := by decide

theorem test_witness_CommitLeaveChecked :
    (asking .leave 0 0 0 (cluster 9 [9])).commits .leave = true ∧ (cluster 9 [9]).station ≠ .joining ∧
      (cluster 9 [9]).station ≠ .diverged := by decide
theorem test_witness_CommitLeaveChecked_joining_and_diverged :
    let s := asking .leave 0 0 0 (queued 5 (.publish 1) (joiner 9 [5] 1))
    let d := asking .leave 0 0 0 (inState .diverged (cluster 9 [9]))
    s.commits .leave = true ∧ s.station = .joining ∧ s.requestsLawful = true ∧
      d.commits .leave = true ∧ d.station = .diverged ∧ d.requestsLawful = true := by decide

theorem test_witness_CommitLockChecked :
    let s (k : RequestKind) (o : Octet) := asking k o 0 0 (cluster 2 [2])
    (s .claim 32).commits .claim = true ∧ 31 < (s .claim 32).hp.requestB.toNat ∧ (s .tryClaim 32).commits .tryClaim = true ∧
      (s .release 32).commits .release = true ∧ (s .claim 31).hp.requestB = BitVec.ofNat 8 (31 : LockNo).val ∧
      (s .claim 31).commits .claim = true ∧ (s .tryClaim 0).commits .tryClaim = true ∧
      (s .release 31).commits .release = true := by decide

theorem test_witness_CommitWithdrawChecked :
    let s := asking .withdraw 31 0 0 ((queued 21 (.claim 31) (cluster 2 [2])).setClaim 31 ⟨.claimQueued, 21, 0⟩)
    s.commits .withdraw = true ∧ s.requestsLawful = true ∧ 31 < (asking .withdraw 32 0 0 s).hp.requestB.toNat ∧
      s.hp.requestB = BitVec.ofNat 8 (31 : LockNo).val ∧ (s.claim 31).phase = .claimQueued ∧
      s.hp.queue.any (fun r => s.follows 31 r && r.inAttempt) = false := by decide
/-- Two claims for one lock: the record follows the one with its tag, which is withdrawn (R11, R14; log 28). -/
theorem test_commit_withdraw_follows_tag :
    let s := (queued 23 (.claim 5) (onLine 21 (.claim 5) (.claim 5 .wait) lockFive)).setClaim 5 ⟨.claimQueued, 23, 0⟩
    let t := after (.commitWithdraw 22) (asking .withdraw 5 0 0 s)
    t.hp.queue.map (·.tag) = [21] ∧ t.claim 5 = ⟨.none, 0, 0⟩ ∧ t.hp.indications = [⟨.withdrawn, 23, 5, 0, 0⟩] := by
  decide
theorem test_witness_CommitWithdrawChecked_queued :
    let s := asking .withdraw 5 0 0 ((onLine 21 (.claim 5) (.claim 5 .wait) lockFive).setClaim 5 ⟨.claimQueued, 21, 0⟩)
    let w := s.setClaim 5 ⟨.waiting, 21, 0⟩
    s.commits .withdraw = true ∧ s.requestsLawful = true ∧ (s.claim 5).phase = .claimQueued ∧
      s.hp.queue.any (fun r => s.follows 5 r && r.inAttempt) = true ∧ w.commits .withdraw = true ∧
      w.requestsLawful = true ∧ (w.claim 5).phase ≠ .claimQueued := by decide

theorem test_witness_CommitArriveChecked :
    let s (o : Octet) := asking .arrive o 2 0 (cluster 2 [2])
    (s 8).commits .arrive = true ∧ 7 < (s 8).hp.requestB.toNat ∧ (s 7).commits .arrive = true ∧
      (s 7).hp.requestB = BitVec.ofNat 8 (7 : BarrierNo).val := by decide

theorem test_witness_CommitAbandonChecked :
    let s := asking .abandon 7 0 0 ((queued 30 (.arrive 7 2) (cluster 5 [2, 5])).setArrival 7 ⟨.arriveQueued, 30, none⟩)
    s.commits .abandon = true ∧ s.requestsLawful = true ∧ 7 < (asking .abandon 8 0 0 s).hp.requestB.toNat ∧
      s.hp.requestB = BitVec.ofNat 8 (7 : BarrierNo).val ∧ (s.arrival 7).phase = .arriveQueued ∧
      s.hp.queue.any (fun r => r.arrives 7 && r.inAttempt) = false := by decide
theorem test_witness_CommitAbandonChecked_queued :
    let s := asking .abandon 0 0 0
      ((onLine 30 (.arrive 0 2) (.arrive 0 2) (cluster 5 [2, 5])).setArrival 0 ⟨.arriveQueued, 30, none⟩)
    let a := s.setArrival 0 ⟨.arrived, 30, some 7⟩
    s.commits .abandon = true ∧ s.requestsLawful = true ∧ (s.arrival 0).phase = .arriveQueued ∧
      s.hp.queue.any (fun r => r.arrives 0 && r.inAttempt) = true ∧ a.commits .abandon = true ∧
      a.requestsLawful = true ∧ (a.arrival 0).phase ≠ .arriveQueued := by decide

theorem test_witness_CommitPublishPostChecked :
    let s (k : RequestKind) (o : Octet) := asking k o 2 0 (cluster 2 [2])
    (s .publish 0).commits .publish = true ∧ (s .post 16).commits .post = true ∧ 15 < (s .post 16).hp.requestB.toNat ∧
      (s .post 15).commits .post = true ∧ (s .post 15).hp.requestB = BitVec.ofNat 8 (15 : Station).val := by decide

theorem test_witness_CommitCancelChecked :
    let s := asking .cancel 17 0 0 (queued 18 (.post 9 1) (onLine 17 (.publish 5) (.publish 5) (cluster 4 [4, 9])))
    s.commits .cancel = true ∧ s.requestsLawful = true ∧
      (asking .cancel 19 0 0 s).hp.queue.any (fun r => r.tag == (asking .cancel 19 0 0 s).hp.requestB) = false ∧
      (⟨.publish 5, 17, true, false⟩ : Request) ∈ s.hp.queue ∧ s.hp.requestB = 17 ∧
      (⟨.post 9 1, 18, false, false⟩ : Request) ∈ s.hp.queue ∧ (asking .cancel 18 0 0 s).commits .cancel = true ∧
      (asking .cancel 18 0 0 s).hp.requestB = 18 := by decide

/-- A removed WITHDRAW of two leaves the record WITHDRAW QUEUED, the last one returns it to WAITING, and a removed ABANDON
returns its record by its generation (R20, R37). -/
theorem test_record_returns :
    let s (n : Nat) := (cluster 2 [2]).setClaim 31 ⟨.withdrawQueued, 21, n⟩
    let a (g : Option Octet) := (cluster 2 [2]).setArrival 7 ⟨.abandonQueued, 30, g⟩
    ((s 2).returnRecord (.withdraw 31)).claim 31 = ⟨.withdrawQueued, 21, 1⟩ ∧
      ((s 1).returnRecord (.withdraw 31)).claim 31 = ⟨.waiting, 21, 0⟩ ∧
      ((a none).returnRecord (.abandon 7)).arrival 7 = ⟨.arriveQueued, 30, none⟩ ∧
      ((a (some 9)).returnRecord (.abandon 7)).arrival 7 = ⟨.arrived, 30, some 9⟩ ∧
      ((a none).returnRecord (.arrive 7 2)).arrival 7 = ⟨.none, 0, none⟩ ∧
      ((a (some 9)).returnRecord (.arrive 7 2)).arrival 7 = ⟨.abandonQueued, 30, some 9⟩ := by decide

theorem test_witness_CommitWatchChecked :
    let s (code : Fin 4) := asking .armWatch (BitVec.ofNat 8 (3 * 64 + code.val * 16 + 15)) 0 0x42 (cluster 2 [2])
    ∀ code : Fin 4, (s code).commits .armWatch = true ∧
      (s code).hp.requestB = BitVec.ofNat 8 ((3 : SlotNo).val * 64 + code.val * 16 + (15 : Station).val) := by decide
theorem test_witness_CommitWatchChecked_disarm :
    let s (o : Octet) := asking .disarmWatch o 0 0 (cluster 2 [2])
    (s 4).commits .disarmWatch = true ∧ 3 < (s 4).hp.requestB.toNat ∧ (s 3).commits .disarmWatch = true ∧
      (s 3).hp.requestB = BitVec.ofNat 8 (3 : SlotNo).val := by decide

theorem test_witness_QueriesAnswered :
    let s (k : RequestKind) (o : Octet) := asking k o 0 0 (cluster 2 [2, 5])
    (s .queryLock 32).commits .queryLock = true ∧ 31 < (s .queryLock 32).hp.requestB.toNat ∧
      (s .queryLock 31).hp.requestB = BitVec.ofNat 8 (31 : LockNo).val ∧ (s .queryBarrier 8).commits .queryBarrier = true ∧
      7 < (s .queryBarrier 8).hp.requestB.toNat ∧ (s .queryBarrier 7).hp.requestB = BitVec.ofNat 8 (7 : BarrierNo).val := by
  decide
theorem test_witness_QueriesAnswered_roster_and_word :
    let s (k : RequestKind) (o : Octet) := asking k o 0 0 (cluster 2 [2, 5])
    (s .queryRoster 16).commits .queryRoster = true ∧ 15 < (s .queryRoster 16).hp.requestB.toNat ∧
      (s .queryRoster 15).hp.requestB = BitVec.ofNat 8 (15 : Station).val ∧
      (s .queryRoster 15).standing 2 = .member ∧ (∀ t < (2 : Station), (s .queryRoster 15).standing t ≠ .member) ∧
      (s .queryWord 16).commits .queryWord = true ∧ (s .queryWord 15).commits .queryWord = true := by decide

theorem test_witness_OwnTimersExpire :
    State.reset.station = .watch ∧ State.reset.mc.quietWatch = .running 16384 ∧ (cluster 1 [1]).station ≠ .watch ∧
      (cluster 1 [1]).mc.presence = .running 4096 ∧
      ((cluster 1 [1, 15]).setSilence 15 (.running 32768)).mc.silence[(15 : Station)] = .running 32768 := by decide

theorem test_witness_ClusterLost :
    let s := joiner 9 [5] 0x0001
    let r := { s with mc := { s.mc with transfer := .running 32768 } }
    r.resetAsserted = false ∧ r.station = .joining ∧ r.mc.transfer = .running 32768 ∧ (cluster 1 [1]).station ≠ .joining ∧
      (∀ b ∈ [FrameBody.leave, .resync, .join true, .join false, .evict 5],
        (hearing 5 b s).hearsPeer ⟨5, 0x1200, b⟩ = true) ∧ ∀ t : Station, t ≠ 5 → s.standing t ≠ .member := by decide

theorem test_witness_IdleLineEvents :
    let s := afterGap 11 (cluster 1 [1])
    let o := afterGap 12 (cluster 1 [1])
    s.resetAsserted = false ∧ s.le.line = .idle ∧ s.le.gapCount < 12 ∧ s.station ≠ .halted ∧ 12 ≤ o.le.gapCount ∧
      (inState .halted o).station = .halted ∧ { s with le := ⟨.receiving, 0, true, []⟩ }.le.line = .receiving := by decide

theorem test_witness_LineHeldCondition :
    let own := sentRequest 17 (.publish 5) (.publish 5) (cluster 4 [4])
    (cluster 4 [4]).le.line ≠ .held ∧ (cluster 4 [4]).le.line = .idle ∧
      (onLine 17 (.publish 5) (.publish 5) (cluster 4 [4])).le.line = .contending ∧ own.le.line = .slot ∧
      own.au.heard.any (fun h => h.own) = true ∧ { cluster 4 [4] with le := ⟨.held, 12, false, []⟩ }.le.line = .held := by
  decide

theorem test_witness_ChoiceFollowsTable72 :
    State.reset.station = .watch ∧ (outsider 3).station = .outside ∧ (joiner 9 [5] 1).station = .joining ∧
      (inState .diverged (cluster 9 [9])).station = .diverged ∧ (cluster 9 [9]).station = .inStep := by decide
theorem test_witness_ChoiceFollowsTable72_in_step :
    let e := (cluster 4 [4, 9]).setSilence 9 .expired
    let j := (cluster 4 [4, 9]).setEntry 2 ⟨.joining, 0⟩
    e.mc.silence[(9 : Station)] = .expired ∧ (∀ k < (9 : Station), e.mc.silence[k] ≠ .expired) ∧
      (∀ t : Station, j.mc.silence[t] ≠ .expired) ∧ j.standing j.me = .member ∧
      (∀ t < j.me, j.standing t ≠ .member) ∧ j.standing 2 = .joining ∧ (j.entry 2).installed ≠ allPartsSet := by decide

theorem test_witness_BodiesBuilt :
    let s := queued 3 (.abandon 7) (((cluster 4 [4]).setEntry 9 ⟨.joining, 0x0FFF⟩).setArrival 7 ⟨.abandonQueued, 2, some 9⟩)
    s.standing 9 = .joining ∧ hasPart (s.entry 9).installed 12 = false ∧
      (∀ q < (12 : PartNo), ∀ t, s.standing t = .joining → hasPart (s.entry t).installed q = true) ∧
      s.hp.queue = [⟨.abandon 7, 3, false, false⟩] := by decide

theorem test_witness_ContentionPoint :
    let s := queued 3 (.post 4 9) (cluster 4 [4])
    s.resetAsserted = false ∧ s.le.line = .idle ∧ s.le.yieldFlag = false ∧ s.au.orderHold = false ∧ s.station ≠ .watch ∧
      s.station ≠ .halted ∧ s.choose = some (.request 3) ∧ s.buildBody (.request 3) = some (.post 4 9) := by decide
theorem test_witness_ContentionPoint_no_start :
    let s := queued 3 (.post 4 9) (cluster 4 [4])
    (s.setYield.le.yieldFlag = true ∧ s.setYield.le.line = .idle) ∧ (s.setOrderHold true).au.orderHold = true ∧
      State.reset.station = .watch ∧ (inState .halted s).station = .halted ∧ (cluster 4 [4]).choose = none := by decide

theorem test_witness_AbandonAnsweredAtBuild :
    let s := queued 31 (.abandon 0) (cluster 5 [2, 5])
    let n := s.setArrival 0 ⟨.abandonQueued, 30, none⟩
    s.le.line = .idle ∧ s.le.yieldFlag = false ∧ s.au.orderHold = false ∧ s.station = .inStep ∧
      s.hp.queue = [⟨.abandon 0, 31, false, false⟩] ∧ s.choose = some (.request 31) ∧
      (s.arrival 0).phase ≠ .abandonQueued ∧ n.choose = some (.request 31) ∧ (n.arrival 0).generation = none := by decide

/-- A request in attempt at its seventh failure, or the sixth. -/
def failing (counter : Nat) (mark : Bool) : State :=
  let s := onLine 17 (.publish 5) (.publish 5) (cluster 4 [4])
  { s with
    ss := { s.ss with counter := counter }
    hp := { s.hp with queue := s.hp.queue.map (fun r => { r with cancelMark := mark }) } }

theorem test_witness_FailedAttempt :
    (failing 6 false).ss.attempt = some ⟨⟨4, 0x1200, .publish 5⟩, some (.request 17)⟩ ∧
      (failing 6 false).requestsLawful = true ∧ (failing 6 false).attemptConsistent = true ∧ (failing 6 false).ss.counter < 7 ∧
      (failing 6 false).hp.queue.any (fun r => r.inAttempt && r.cancelMark) = false ∧
      (failing 7 false).attemptConsistent = true ∧ (failing 7 false).ss.counter = 7 ∧
      (failing 7 false).hp.queue = [⟨.publish 5, 17, true, false⟩] ∧ (failing 0 true).attemptConsistent = true ∧
      (failing 0 true).hp.queue = [⟨.publish 5, 17, true, true⟩] := by decide
theorem test_witness_FailedAttempt_duty :
    let s := { sent .presence .presence (cluster 4 [4]) with
      ss := ⟨some ⟨⟨4, 0x1200, .presence⟩, some .presence⟩, some .presence, 7⟩ }
    s.requestsLawful = true ∧ s.attemptConsistent = true ∧ s.ss.counter = 7 ∧ ∀ tag, Item.presence ≠ .request tag :=
  ⟨by decide, by decide, by decide, nofun⟩

/-- A frame on the line whose item the entry into OUTSIDE took away. -/
def orphaned (b : FrameBody) : State :=
  let f : Frame := ⟨4, 0, b⟩
  { inSlot ⟨.good f, .none, true⟩ (outsider 4) with ss := ⟨some ⟨f, none⟩, none, 0⟩ }

theorem test_witness_FailedAttempt_no_item : (orphaned .leave).ss.attempt = some ⟨⟨4, 0, .leave⟩, none⟩ := by decide

theorem test_witness_ArbitrationLost :
    let s := failing 0 false
    let m := failing 0 true
    s.resetAsserted = false ∧ s.le.line = .contending ∧ (0x93 : Octet).toNat < (Frame.mk 4 0x1200 (.publish 5)).head.toNat ∧
      s.hp.queue.any (fun r => r.inAttempt && r.cancelMark) = false ∧ s.requestsLawful = true ∧
      m.ss.attempt = some ⟨⟨4, 0x1200, .publish 5⟩, some (.request 17)⟩ ∧ m.requestsLawful = true ∧
      m.ss.counted = some (.request 17) ∧ m.hp.queue = [⟨.publish 5, 17, true, true⟩] ∧
      (Frame.mk 4 0x1200 (.publish 5)).head.toNat ≤ (0x94 : Octet).toNat := by decide

theorem test_witness_CollisionTruncates :
    let f : Frame := ⟨4, 0x1200, .publish 5⟩
    (failing 0 false).ss.attempt = some ⟨f, some (.request 17)⟩ ∧ (failing 0 false).le.line = .contending ∧
      (f.octets.flatMap characterBits)[9]? = some true ∧ (f.octets.flatMap characterBits)[14]? = some true ∧
      14 % 10 ≠ 9 := by decide

theorem test_witness_HaltingFaults :
    let h : HeardFrame := ⟨.good ⟨5, 0x11FF, .presence⟩, .order, false⟩
    (failing 0 false).driver ≠ .released ∧ (cluster 4 [4]).driver = .released ∧
      (inSlot h (cluster 4 [4, 5])).inSlotOf h = true ∧ h.objection ≠ .none ∧
      (∀ state ∈ [StationState.outside, .joining, .inStep, .diverged],
        (hearing 4 .presence (inState state (cluster 4 [4]))).inSlotOf
          ⟨.good ⟨4, 0x1200, .presence⟩, .none, false⟩ = true) := by decide

theorem test_witness_FrameEndDecides :
    let s := { cluster 4 [4, 5] with le := ⟨.receiving, 12, false, []⟩ }
    let good (order : Word16) := cleanCharacters (Frame.mk 5 order .presence).octets
    (failing 0 false).le.line = .contending ∧ s.resetAsserted = false ∧ s.le.line = .receiving ∧
      completeFrame (good 0x9200) = some (good 0x9200) ∧ (inState .outside s).station = .outside ∧
      classify (good 0x9200) = .good ⟨5, 0x9200, .presence⟩ ∧ 32768 ≤ ((0x9200 : Word16) - s.au.order).toNat ∧
      classify (good 0x91FF) = .good ⟨5, 0x91FF, .presence⟩ ∧ ¬ 32768 ≤ ((0x91FF : Word16) - s.au.order).toNat := by decide
theorem test_witness_FrameEndDecides_bad_frames :
    let bad := cleanCharacters ((Frame.mk 5 0 .presence).octets.take 4 ++ [0x00])
    let malformed := (cleanCharacters (Frame.mk 5 0 .presence).octets).map (fun x => ⟨x.data, true⟩)
    completeFrame bad = some bad ∧ classify bad = .badCheck ∧ completeFrame malformed = some malformed ∧
      classify malformed = .malformed := by decide

theorem test_witness_ObjectedFrame :
    let h : HeardFrame := ⟨.good ⟨5, 0x1200, .presence⟩, .none, false⟩
    (inSlot h (cluster 4 [4, 5])).inSlotOf h = true ∧ h.own = false ∧ SlotSeen.lateDominant ≠ .nothing ∧
      (sentRequest 17 (.publish 5) (.publish 5) (cluster 4 [4])).inSlotOf
        ⟨.good ⟨4, 0x1200, .publish 5⟩, .none, true⟩ = true ∧ (0x3D : Octet) ≠ 0x3C := by decide

theorem test_witness_OwnFrameOrdered :
    let s := sentRequest 17 (.publish 5) (.publish 5) (cluster 4 [4])
    s.inSlotOf ⟨.good ⟨4, 0x1200, .publish 5⟩, .none, true⟩ = true ∧
      s.ss.attempt = some ⟨⟨4, 0x1200, .publish 5⟩, some (.request 17)⟩ ∧ s.requestsLawful = true ∧
      s.attemptConsistent = true ∧ s.station = .inStep ∧ s.hp.queue.any (fun r => r.inAttempt && r.cancelMark) = false := by
  decide
theorem test_witness_OwnFrameOrdered_other_states :
    let j := sentRequest 17 .leave .leave (joiner 9 [5] 1)
    let e := sentRequest 17 .leave .leave (joiner 9 [5] 0)
    let d := sent .resync .resync (inState .diverged (cluster 4 [4]))
    let o := sentRequest 17 .join (.join true) (outsider 4)
    (∀ s ∈ [j, e, d, o], s.requestsLawful = true ∧ s.attemptConsistent = true ∧
      s.hp.queue.any (fun r => r.inAttempt && r.cancelMark) = false) ∧
      j.tu.installed ≠ 0 ∧ e.tu.installed = 0 ∧ d.station = .diverged ∧ o.station = .outside := by decide
/-- The same with a cancel mark on the head request. -/
def marked (s : State) : State :=
  { s with hp := { s.hp with queue := match s.hp.queue with
    | r :: rest => { r with cancelMark := true } :: rest
    | [] => [] } }

theorem test_witness_OwnFrameOrdered_marked :
    let m := marked (sentRequest 17 (.publish 5) (.publish 5) (cluster 4 [4]))
    let j := marked (sentRequest 17 .leave .leave (joiner 9 [5] 1))
    let d := marked (sentRequest 17 .leave .leave (inState .diverged (cluster 4 [4])))
    let o := marked (sentRequest 17 .join (.join true) (outsider 4))
    m.inSlotOf ⟨.good ⟨4, 0x1200, .publish 5⟩, .none, true⟩ = true ∧ m.station = .inStep ∧
      m.hp.queue = [⟨.publish 5, 17, true, true⟩] ∧
      ∀ s ∈ [m, j, d, o], s.requestsLawful = true ∧ s.attemptConsistent = true := by decide
theorem test_witness_OwnFrameOrdered_no_item :
    let s := orphaned .presence
    s.inSlotOf ⟨.good ⟨4, 0, .presence⟩, .none, true⟩ = true ∧ s.requestsLawful = true ∧ s.attemptConsistent = true ∧
      s.station = .outside ∧ s.hp.queue.any (fun r => r.inAttempt && r.cancelMark) = false := by decide

theorem test_witness_AcceptedFrameTracked :
    let h : HeardFrame := ⟨.good ⟨5, 0x7777, .presence⟩, .none, false⟩
    (∀ s ∈ [State.reset, outsider 4, inState .diverged (cluster 4 [4]), joiner 4 [5] 0],
      (inSlot h s).inSlotOf h = true) ∧ (joiner 4 [5] 0).tu.installed = 0 ∧ FrameBody.isSnapshot .presence = false ∧
      (outsider 4).me ≠ 5 ∧ FrameBody.presence ≠ .evict 4 ∧
      (inSlot ⟨.badCheck, .none, false⟩ State.reset).inSlotOf ⟨.badCheck, .none, false⟩ = true := by decide

theorem test_witness_AcceptedFrameTracked_no_item :
    ∀ b ∈ [FrameBody.leave, .presence], (orphaned b).inSlotOf ⟨.good ⟨4, 0, b⟩, .none, true⟩ = true ∧
      (orphaned b).station = .outside ∧ (orphaned b).attemptConsistent = true := by decide

theorem test_witness_OutOfStepFrame :
    let ahead (order : Word16) : HeardFrame := ⟨.good ⟨5, order, .presence⟩, .none, false⟩
    (inSlot (ahead 0x1201) (cluster 4 [4, 5])).inSlotOf (ahead 0x1201) = true ∧
      1 ≤ ((0x1201 : Word16) - (cluster 4 [4, 5]).au.order).toNat ∧
      (inSlot (ahead 0x91FF) (cluster 4 [4, 5])).inSlotOf (ahead 0x91FF) = true ∧
      ((0x91FF : Word16) - (cluster 4 [4, 5]).au.order).toNat ≤ 32767 ∧
      (inSlot (ahead 0x1201) (joiner 4 [5] 1)).inSlotOf (ahead 0x1201) = true ∧ (joiner 4 [5] 1).tu.installed ≠ 0 ∧
      (0x1201 : Word16) ≠ (joiner 4 [5] 1).au.order := by decide

/-- Station 2's CLAIM of lock 31 in the four situations of R4 and R5. -/
def claimant (r : LockRecord) (v : Flavour) : State :=
  (sentRequest 21 (if v = .wait then .claim 31 else .tryClaim 31) (.claim 31 v)
    ((cluster 2 [2, 4, 7]).setLock 31 r)).setClaim 31 ⟨.claimQueued, 21, 0⟩

theorem test_witness_ClaimApplied :
    ∀ r ∈ [(⟨none, []⟩ : LockRecord), ⟨some 2, []⟩, ⟨some 7, [2]⟩, ⟨some 7, [4]⟩], ∀ v ∈ [Flavour.wait, .tryOnce],
      (claimant r v).hears true 21 ⟨2, 0x1200, .claim 31 v⟩ = true ∧ (claimant r v).lock 31 = r ∧ r.lawful = true := by
  decide
theorem test_witness_ClaimApplied_peer :
    (hearing 7 (.claim 0 .wait) (cluster 2 [2, 4, 7])).hears false 0 ⟨7, 0x1200, .claim 0 .wait⟩ = true := by decide

/-- A JOINING station that holds part 0 and the parts of lock 0, barrier 0 and word 0, and lacks those of the last. -/
def halfWay : State := joiner 9 [5] 0x0A03

theorem test_witness_joining_station_holds_or_lacks_the_part :
    (∀ b ∈ [FrameBody.claim 0 .wait, .release 0, .withdraw 31, .arrive 0 2, .abandon 7 0, .publish 7, .post 9 1],
      (hearing 5 b halfWay).hears false 0 ⟨5, 0x1200, b⟩ = true) ∧
      (hearing 8 (.publish 1) (joiner 9 [8] 0x0A03)).hears false 0 ⟨8, 0x1200, .publish 1⟩ = true ∧
      halfWay.holdsPart (1 + (0 : LockNo).val / 4) = true ∧ halfWay.holdsPart (1 + (31 : LockNo).val / 4) = false ∧
      halfWay.holdsPart (9 + (0 : BarrierNo).val / 4) = true ∧ halfWay.holdsPart (9 + (7 : BarrierNo).val / 4) = false ∧
      halfWay.holdsPart (11 + (5 : Station).val / 8) = true ∧ halfWay.holdsPart (11 + (8 : Station).val / 8) = false := by
  decide

theorem test_witness_ReleaseApplied :
    let s (r : LockRecord) := sentRequest 22 (.release 31) (.release 31) ((cluster 2 [2, 4, 7]).setLock 31 r)
    ∀ r ∈ [(⟨some 2, []⟩ : LockRecord), ⟨some 2, [4, 7]⟩, ⟨some 4, [2]⟩, ⟨some 4, []⟩, ⟨none, []⟩],
      (s r).hears true 22 ⟨2, 0x1200, .release 31⟩ = true ∧ (s r).lock 31 = r ∧ r.lawful = true := by decide
theorem test_witness_ReleaseApplied_granted_here :
    let s := hearing 7 (.release 31) ((cluster 2 [2, 4, 7]).setLock 31 ⟨some 7, [2, 4]⟩)
    s.hears false 0 ⟨7, 0x1200, .release 31⟩ = true ∧ s.lock 31 = ⟨some 7, [2, 4]⟩ := by decide

theorem test_witness_WithdrawApplied :
    let s (r : LockRecord) := sentRequest 22 (.withdraw 31) (.withdraw 31)
      (((cluster 2 [2, 4, 7]).setLock 31 r).setClaim 31 ⟨.withdrawQueued, 21, 1⟩)
    ∀ r ∈ [(⟨some 7, [4, 2]⟩ : LockRecord), ⟨some 2, [4]⟩, ⟨some 7, []⟩],
      (s r).hears true 22 ⟨2, 0x1200, .withdraw 31⟩ = true ∧ (s r).lock 31 = r ∧ r.lawful = true := by decide

/-- Station 2's ARRIVE at barrier 7 with a count, over a record of the barrier. -/
def arriver (r : BarrierRecord) (count : Nat) : State :=
  (sentRequest 40 (.arrive 7 count) (.arrive 7 count) ((cluster 2 [2, 4, 7]).setBarrier 7 r)).setArrival 7
    ⟨.arriveQueued, 40, none⟩

theorem test_witness_ArriveApplied :
    (∀ c ∈ [((⟨9, 3, 0x0004⟩ : BarrierRecord), 3), (⟨9, 0, 0⟩, 3), (⟨9, 3, 0x0010⟩, 2), (⟨9, 3, 0x0010⟩, 3),
      (⟨9, 2, 0x0010⟩, 2)], (arriver c.1 c.2).hears true 40 ⟨2, 0x1200, .arrive 7 c.2⟩ = true ∧
        (arriver c.1 c.2).barrier 7 = c.1) ∧
      stationCount (0x0010 ||| BitVec.twoPow 16 2) = 2 ∧ hasStation 0x0004 2 = true ∧ hasStation 0x0010 2 = false := by decide
theorem test_witness_ArriveApplied_peer :
    let s := ((cluster 2 [2, 4, 7]).setBarrier 7 ⟨9, 2, 0x0004⟩).setArrival 7 ⟨.arrived, 40, some 9⟩
    let n := (cluster 2 [2, 4, 7]).setBarrier 7 ⟨9, 2, 0x0010⟩
    (hearing 4 (.arrive 7 2) s).hears false 0 ⟨4, 0x1200, .arrive 7 2⟩ = true ∧ (s.arrival 7).phase = .arrived ∧
      hasStation (0x0004 ||| BitVec.twoPow 16 4) s.me = true ∧
      (hearing 7 (.arrive 7 2) n).hears false 0 ⟨7, 0x1200, .arrive 7 2⟩ = true ∧
      hasStation (0x0010 ||| BitVec.twoPow 16 7) n.me = false := by decide

theorem test_witness_AbandonApplied :
    let s (g : Octet) := sentRequest 41 (.abandon 7) (.abandon 7 g) ((cluster 2 [2, 4]).setBarrier 7 ⟨9, 3, 0x0004⟩)
    (s 9).hears true 41 ⟨2, 0x1200, .abandon 7 9⟩ = true ∧ hasStation ((s 9).barrier 7).arrived 2 = true ∧
      ((s 9).barrier 7).generation = 9 ∧ (s 8).hears true 41 ⟨2, 0x1200, .abandon 7 8⟩ = true := by decide

theorem test_witness_PublishApplied :
    (sentRequest 6 (.publish 5) (.publish 5) (cluster 2 [2, 4])).hears true 6 ⟨2, 0x1200, .publish 5⟩ = true ∧
      (hearing 4 (.publish 5) (cluster 2 [2, 4])).hears false 0 ⟨4, 0x1200, .publish 5⟩ = true := by decide

theorem test_witness_PostApplied :
    let s (t : Station) := sentRequest 6 (.post t 5) (.post t 5) (cluster 2 [2, 4])
    (s 15).hears true 6 ⟨2, 0x1200, .post 15 5⟩ = true ∧ (s 15).standing 15 = .absent ∧
      (s 4).hears true 6 ⟨2, 0x1200, .post 4 5⟩ = true ∧ (s 4).standing 4 ≠ .absent ∧
      (hearing 4 (.post 2 5) (cluster 2 [2, 4])).hears false 0 ⟨4, 0x1200, .post 2 5⟩ = true := by decide

theorem test_witness_CountedBesideEffect :
    let s := hearing 4 .presence (cluster 2 [2, 4])
    let n := hearing 7 (.claim 3 .wait) (cluster 2 [2, 4])
    s.inSlotOf ⟨.good ⟨4, 0x1200, .presence⟩, .none, false⟩ = true ∧ s.station = .inStep ∧ s.me ≠ 4 ∧
      n.inSlotOf ⟨.good ⟨7, 0x1200, .claim 3 .wait⟩, .none, false⟩ = true ∧ n.standing 7 ≠ .member := by decide
theorem test_witness_CountedBesideEffect_joining_and_own :
    let j := hearing 7 (.snapshot (.words 0 (Vector.replicate 8 0))) halfWay
    let e := hearing 5 (.evict 7) halfWay
    j.inSlotOf ⟨.good ⟨7, 0x1200, .snapshot (.words 0 (Vector.replicate 8 0))⟩, .none, false⟩ = true ∧
      j.station = .joining ∧ j.holdsPart 0 = true ∧ j.standing 7 ≠ .member ∧ e.standing 7 = .absent ∧
      ∀ s ∈ [cluster 4 [4], joiner 9 [5] 0], (sent .presence .presence s).sentFor .presence ⟨s.me, 0x1200, .presence⟩ = true := by
  decide
theorem test_witness_CountedBesideEffect_marked :
    let p := sentRequest 6 (.publish 5) (.publish 5) (cluster 2 [2, 4])
    let l := sentRequest 6 .leave .leave (inState .diverged (cluster 2 [2, 4]))
    let j := sentRequest 6 .join (.join false) (outsider 2)
    (marked p).hp.queue = [⟨.publish 5, 6, true, true⟩] ∧ p.sentFor (.request 6) ⟨2, 0x1200, .publish 5⟩ = true ∧
      l.sentFor (.request 6) ⟨2, 0x1200, .leave⟩ = true ∧ j.sentFor (.request 6) ⟨2, 0, .join false⟩ = true := by decide

theorem test_witness_OwnJoinTaken :
    ∀ found : Bool, let s := sentRequest 9 .join (.join found) (outsider 3)
      s.inSlotOf ⟨.good ⟨3, 0, .join found⟩, .none, true⟩ = true ∧ s.station = .outside ∧
        s.hp.queue = [⟨.join, 9, true, false⟩] ∧ s.ss.counted = some (.request 9) ∧
        s.ss.attempt = some ⟨⟨3, 0, .join found⟩, some (.request 9)⟩ := by decide

theorem test_witness_LeaveAndEvictTaken :
    (∀ s ∈ [cluster 3 [3, 4], joiner 3 [4] 1, joiner 3 [4] 0, inState .diverged (cluster 3 [3, 4])],
      (sentRequest 9 .leave .leave s).sentFor (.request 9) ⟨3, 0x1200, .leave⟩ = true ∧
        (hearing 4 (.evict 3) s).inSlotOf ⟨.good ⟨4, 0x1200, .evict 3⟩, .none, false⟩ = true) ∧
      (hearing 4 (.evict 3) (cluster 3 [3, 4])).hearsPeer ⟨4, 0x1200, .evict 3⟩ = true ∧
      (hearing 4 (.evict 3) (joiner 3 [4] 1)).hearsPeer ⟨4, 0x1200, .evict 3⟩ = true ∧
      ((0x1201 : Word16) - (cluster 3 [3, 4]).au.order).toNat = 1 := by decide

theorem test_witness_OwnResyncTaken :
    let s := sent .resync .resync (inState .diverged (cluster 3 [3, 4]))
    s.inSlotOf ⟨.good ⟨3, 0x1200, .resync⟩, .none, true⟩ = true ∧ s.station = .diverged ∧
      s.ss.attempt = some ⟨⟨3, 0x1200, .resync⟩, some .resync⟩ ∧ s.attemptConsistent = true := by decide

theorem test_witness_PeerBecomesJoining :
    ∀ s ∈ [cluster 3 [3, 4, 5], joiner 3 [4, 5] 0x0A03],
      (hearing 15 (.join false) s).countsPeer ⟨15, 0x1200, .join false⟩ = true ∧ s.standing 15 = .absent ∧
        (hearing 4 .resync s).hearsPeer ⟨4, 0x1200, .resync⟩ = true ∧ s.standing 5 = .member := by decide

theorem test_witness_PeerDeparts :
    ∀ b ∈ [FrameBody.leave, .evict 4, .join false], ∀ s ∈ [cluster 3 [3, 4, 7], joiner 3 [4, 7] 0x0A03],
      let sender : Station := if b = .evict 4 then 7 else 4
      (hearing sender b s).countsPeer ⟨sender, 0x1200, b⟩ = true ∧ s.tu.lawful = true ∧ s.standing 4 ≠ .absent ∧
        s.standing 7 = .member ∧ s.standing sender = .member := by decide
theorem test_witness_PeerDeparts_own :
    let s := sent (.evict 4) (.evict 4) (cluster 3 [3, 4])
    s.hearsSent (.evict 4) ⟨3, 0x1200, .evict 4⟩ = true ∧ s.tu.lawful = true ∧ s.standing 4 ≠ .absent ∧
      s.standing 3 = .member := by decide

theorem test_witness_SnapshotAtInStep :
    let c : PartContent := .barriers 0 (Vector.replicate 4 idleBarrier)
    let s := (cluster 3 [3, 4]).setEntry 9 ⟨.joining, 0x1DFF⟩
    (hearing 4 (.snapshot c) s).hearsFor false .snapshot ⟨4, 0x1200, .snapshot c⟩ = true ∧
      (sent .snapshot (.snapshot c) s).hearsFor true .snapshot ⟨3, 0x1200, .snapshot c⟩ = true ∧
      (hearing 4 (.snapshot c) (joiner 3 [4] 0x0A03)).hearsFor false .snapshot ⟨4, 0x1200, .snapshot c⟩ = true ∧
      (joiner 3 [4] 0x0A03).holdsPart c.part.val = true := by decide

theorem test_witness_JoinerInstallsPart :
    let c : PartContent := .words 1 (Vector.replicate 8 7)
    let s := hearing 5 (.snapshot c) ((joiner 9 [5] 0x0001).setWatch 3 ⟨true, 50, 15, .equal, 7⟩)
    s.hearsPeer ⟨5, 0x1200, .snapshot c⟩ = true ∧ s.station = .joining ∧ c.part ≠ 0 ∧ s.holdsPart c.part.val = false ∧
      s.joinerReports c = [⟨.watchMatched, 50, 15, 0, 7⟩] ∧
      s.tu.installed ||| BitVec.twoPow 13 c.part.val ≠ allPartsSet := by decide
theorem test_witness_JoinerInstallsPart_last :
    let c : PartContent := .barriers 1 (Vector.replicate 4 idleBarrier)
    let s := hearing 5 (.snapshot c) (joiner 9 [5] 0x1BFF)
    s.hearsPeer ⟨5, 0x1200, .snapshot c⟩ = true ∧ s.holdsPart c.part.val = false ∧
      s.tu.installed ||| BitVec.twoPow 13 c.part.val = allPartsSet := by decide

theorem test_witness_LockPartReconciled :
    ∀ r ∈ [(⟨some 9, []⟩ : LockRecord), ⟨some 5, []⟩, ⟨some 5, [9]⟩],
      let c : PartContent := .locks 7 ((Vector.replicate 4 freeLock).set 3 r)
      let s := hearing 5 (.snapshot c) ((joiner 9 [5] 0x0001).setClaim 31 ⟨.waiting, 4, 0⟩)
      s.hearsPeer ⟨5, 0x1200, .snapshot c⟩ = true ∧ s.holdsPart (1 + (7 : Fin 8).val) = false ∧ s.awaits 31 = true ∧
        s.awaits 28 = false := by decide

/-- A part 0 as station 9 hears it. -/
def rosterPart (five nine : RosterEntry) : Vector RosterEntry 16 :=
  ((Vector.replicate 16 absentEntry).set 5 five).set 9 nine

theorem test_witness_FirstSegment :
    let es := rosterPart ⟨.member, allPartsSet⟩ ⟨.joining, 0⟩
    let s := hearing 5 (.snapshot (.roster es)) (joiner 9 [] 0)
    s.inSlotOf ⟨.good ⟨5, 0x1200, .snapshot (.roster es)⟩, .none, false⟩ = true ∧ s.station = .joining ∧
      s.tu.installed = 0 ∧ es[(5 : Station)].standing = .member ∧ es[s.me] = ⟨.joining, 0⟩ ∧
      ∀ k : Station, es[k].lawful = true := by decide
theorem test_witness_FirstSegment_other_contents :
    (rosterPart ⟨.joining, 0⟩ ⟨.joining, 0⟩)[(5 : Station)].standing ≠ .member ∧
      (rosterPart ⟨.member, allPartsSet⟩ absentEntry)[(9 : Station)] ≠ ⟨.joining, 0⟩ ∧
      PartContent.part (.words 0 (Vector.replicate 8 0)) ≠ 0 := by decide

theorem test_witness_FrameRoundTrip :
    (Frame.mk 15 0xFFFF (.arrive 7 16)).lawful = true ∧ (Frame.mk 0 0 (.arrive 0 2)).lawful = true ∧
      (Frame.mk 5 0 (.snapshot (.locks 7 (Vector.replicate 4 ⟨some 3, [4, 5]⟩)))).lawful = true := by decide

theorem test_witness_GoodFramesAreEncoded :
    let cs := cleanCharacters (Frame.mk 15 0xFFFF (.abandon 7 255)).octets
    completeFrame cs = some cs ∧ classify cs = .good ⟨15, 0xFFFF, .abandon 7 255⟩ := by decide

/-- A cluster of two with lock 3 held and waited for, its PUBLISH in the slot, and the slot's end waiting in the queue. -/
def running : State :=
  { sentRequest 6 (.publish 5) (.publish 5) ((cluster 2 [2, 4]).setLock 3 ⟨some 4, [2]⟩) with
    pending := [.slotWindowEnd .nothing] }

theorem test_witness_QueuesStayLawful :
    running.indicationsBounded = true ∧ running.requestsLawful = true ∧
      step running = .next (after (.slotWindowEnd .nothing) { running with pending := [] }) :=
  ⟨by decide, by decide, rfl⟩
theorem test_witness_ReplicaStaysLawful : running.replicaLawful = true := by decide
theorem test_witness_LifeStaysConsistent : running.lifeConsistent = true := by decide
theorem test_witness_NamedStationsListed :
    running.lifeConsistent = true ∧ running.replicaLawful = true ∧ running.station = .inStep ∧ running.namesListed = true ∧
      (after (.slotWindowEnd .nothing) { running with pending := [] }).station = .inStep := by decide
theorem test_witness_WhatFramesAloneChange :
    exec (.slotWindowEnd .nothing) running = .next (after (.slotWindowEnd .nothing) running) ∧
      exec .stall running = .next (after .stall running) ∧ (∀ n b, Instr.stall ≠ .powerOnReset n b) ∧
      (∀ seen, Instr.stall ≠ .slotWindowEnd seen) :=
  ⟨rfl, rfl, nofun, nofun⟩

end Sys2Proof.Tests
end

section
/-!
SUPPORT. A station that hears an accepted frame of chapters 1 and 2 (R83 to R87): the step counts the frame, and between
the two parts of its handling applies it. Then the lock frames' effect case by case, and the statements on RELEASE and
WITHDRAW.
-/

namespace Sys2Proof.Machine

/-! ## What it is to hear a frame -/

theorem State.inSlotOf_iff (s : State) (h : HeardFrame) :
    s.inSlotOf h = true ↔ s.resetAsserted = false ∧ s.le.line = .slot ∧ s.au.heard = some h := by
  simp [State.inSlotOf, and_assoc]

theorem State.hearsPeer_iff (s : State) (f : Frame) :
    s.hearsPeer f = true ↔ s.inSlotOf ⟨.good f, .none, false⟩ = true ∧ (s.station = .inStep ∨ s.station = .joining) ∧
      s.holdsPart 0 = true ∧ f.sender ≠ s.me ∧ f.order = s.au.order ∧ s.standing f.sender = .member := by
  simp [State.hearsPeer, State.countsPeer, and_assoc]

theorem State.hearsOwn_iff (s : State) (tag : Octet) (f : Frame) :
    s.hearsOwn tag f = true ↔ s.inSlotOf ⟨.good f, .none, true⟩ = true ∧ f.sender = s.me ∧ f.order = s.au.order ∧
      s.requestsLawful = true ∧ s.ss.attempt = some ⟨f, some (.request tag)⟩ ∧ s.ss.counted = some (.request tag) ∧
      s.inHand (.request tag) = true ∧ s.station = .inStep ∧ s.tu.installed = allPartsSet ∧ s.standing s.me = .member := by
  simp [State.hearsOwn, State.hearsSent, State.sentFor, and_assoc]

/-- What a station that hears a frame is, whether or not it sent it. -/
theorem State.hears_facts {own : Bool} {tag : Octet} {f : Frame} {s : State} (h : s.hears own tag f = true) :
    s.inSlotOf ⟨.good f, .none, own⟩ = true ∧ (s.station = .inStep ∨ s.station = .joining) ∧ s.holdsPart 0 = true ∧
      (own = true ↔ f.sender = s.me) ∧ f.order = s.au.order ∧ s.standing f.sender = .member := by
  cases own with
  | false =>
    obtain ⟨slot, station, part, sender, order, standing⟩ := (s.hearsPeer_iff f).mp h
    exact ⟨slot, station, part, by simpa using sender, order, standing⟩
  | true =>
    obtain ⟨slot, sender, order, -, -, -, -, station, installed, standing⟩ := (s.hearsOwn_iff tag f).mp h
    refine ⟨slot, .inl station, ?_, by simpa using sender, order, sender ▸ standing⟩
    rw [State.holdsPart, installed]; rfl

/-! ## The request in attempt (R118, R159) -/

/-- A request in hand is the head of the queue, marked in attempt and not to be cancelled. -/
theorem State.inHand_request {s : State} {tag : Octet} (h : s.inHand (.request tag) = true) :
    ∃ r rest, s.hp.queue = r :: rest ∧ r.tag = tag ∧ r.inAttempt = true ∧ r.cancelMark = false := by
  cases q : s.hp.queue with
  | nil => simp [State.inHand, q] at h
  | cons r rest => exact ⟨r, rest, rfl, by simpa [State.inHand, q, and_assoc] using h⟩

theorem State.requestInAttempt_of_head {s : State} {r : Request} {rest : List Request} (q : s.hp.queue = r :: rest)
    (h : r.inAttempt = true) : s.requestInAttempt = some r := by
  simp [State.requestInAttempt, q, h]

/-- The attempt of a request in hand has the request's tag, and no cancel mark (R122). -/
theorem State.attempt_of_inHand {s : State} {tag : Octet} (h : s.inHand (.request tag) = true) :
    s.attemptMarked = false ∧ s.attemptTag = tag := by
  obtain ⟨r, rest, q, rfl, attempt, mark⟩ := State.inHand_request h
  simp [State.attemptMarked, State.attemptTag, State.requestInAttempt_of_head q attempt, mark]

/-- The request of an accepted attempt leaves the queue's head, and is counted no longer (R119, R120). -/
theorem State.settleRequest_eq {s : State} {tag : Octet} (hand : s.inHand (.request tag) = true)
    (counted : s.ss.counted = some (.request tag)) :
    s.settleRequest = { s with
      ss := { s.ss with counted := none, counter := 0 }
      hp := { s.hp with queue := s.hp.queue.drop 1 } } := by
  obtain ⟨r, rest, q, rfl, attempt, -⟩ := State.inHand_request hand
  simp [State.settleRequest, State.requestInAttempt_of_head q attempt, State.removeRequest, counted, q, State.onHp,
    State.uncount, State.onSs]

theorem State.settledQueue_eq {s : State} {f : Frame} {tag : Octet} (h : s.ss.attempt = some ⟨f, some (.request tag)⟩) :
    s.settledQueue = s.hp.queue.drop 1 := by
  simp [State.settledQueue, h]

/-- Behind the head of a lawful queue no request is in attempt, so clearing the marks there changes nothing. -/
theorem State.unmarked_tail {s : State} (lawful : s.requestsLawful = true) :
    (s.hp.queue.drop 1).map (fun r => { r with inAttempt := false }) = s.hp.queue.drop 1 := by
  have unmarked : ∀ r ∈ s.hp.queue.drop 1, r.inAttempt = false := by
    simp only [State.requestsLawful, Bool.and_eq_true] at lawful
    simpa using lawful.1.2
  exact (List.map_congr_left fun r hr => by rw [← unmarked r hr]; rfl).trans (List.map_id _)

/-! ## The frames of chapters 1 and 2, and who hears them -/

/-- The frames whose whole effect is on locks, barriers, words and signals. -/
def FrameBody.onItems : FrameBody → Bool
  | .claim _ _ => true
  | .release _ => true
  | .withdraw _ => true
  | .arrive _ _ => true
  | .abandon _ _ => true
  | .publish _ => true
  | .post _ _ => true
  | .evict _ => false
  | .leave => false
  | .resync => false
  | .join _ => false
  | .snapshot _ => false
  | .presence => false

theorem State.takeNamed_of_onItems {f : Frame} (hb : f.body.onItems = true) (own : Bool) (tag : Octet) (s : State) :
    s.takeNamed own tag f = s := by
  unfold State.takeNamed; cases b : f.body <;> simp_all [FrameBody.onItems]

theorem State.hearTransfer_of_onItems {f : Frame} (hb : f.body.onItems = true) (s : State) : s.hearTransfer f = s := by
  unfold State.hearTransfer; cases b : f.body <;> simp_all [FrameBody.onItems]

/-- What an equal frame leaves of the Membership Controller (R123, R124). -/
theorem State.counted_mc (own : Bool) (f : Frame) (s : State) :
    (s.counted own f).mc =
      if own then { s.mc with presence := .running 4096 }
      else if s.station = .inStep then { s.mc with silence := s.mc.silence.set f.sender (.running 32768) }
      else s.mc := rfl

/-- What an equal frame leaves of the Host Port (R119). -/
theorem State.counted_hp (own : Bool) (f : Frame) (s : State) :
    (s.counted own f).hp = if own then { s.hp with queue := s.settledQueue } else s.hp := rfl

theorem State.counted_station (own : Bool) (f : Frame) (s : State) : (s.counted own f).station = s.station := by
  cases own with
  | true => rfl
  | false => exact (apply_ite MembershipController.state (s.station = .inStep) _ _).trans (ite_self _)

/-- A sender IN STEP hears itself (R123). -/
theorem State.hear_own {f : Frame} {s : State} (hb : f.body.onItems = true) (sender : f.sender = s.me)
    (station : s.station = .inStep) : s.hear true f = { s with mc := (s.counted true f).mc } := by
  simp [State.hear, State.hearTransfer_of_onItems hb, State.hearSilence, sender, State.hearPresence, station,
    Config.presenceInterval, State.counted_mc, State.onMc]

/-- A station hears a MEMBER that is not itself (R124). -/
theorem State.hear_peer {f : Frame} {s : State} (hb : f.body.onItems = true) (sender : f.sender ≠ s.me)
    (standing : s.standing f.sender = .member) : s.hear false f = { s with mc := (s.counted false f).mc } := by
  by_cases station : s.station = .inStep <;>
    simp [State.hear, State.hearTransfer_of_onItems hb, State.hearSilence, sender, State.hearPresence, standing,
      Config.lossTimeout, State.counted_mc, station, State.setSilence, State.onMc]

/-! ## The handling of an accepted frame in two parts (R87): up to its effect, and after it -/

/-- The frame taken in hand (R87 steps 3 and 4): an own frame's request leaves the queue, and the cluster is known. -/
def State.settledBy (own : Bool) (s : State) : State := (if own then s.settleRequest else s).setClusterKnown true

/-- The handling up to the frame's effect (R87 steps 3 to 6): the slot ended, the frame in hand, its sender heard. -/
def State.metBy (own : Bool) (f : Frame) (s : State) : State := (s.endSlot.settledBy own).hear own f

/-- The handling after the frame's effect (R87 steps 8 and 9), where no request carries a cancel mark. -/
def State.concluded (own : Bool) (f : Frame) (s : State) : State :=
  if own then (s.countOrder f).settleAccepted false 0 else s.countOrder f

/-- The conclusion of an own frame, block by block. -/
theorem State.concluded_own (f : Frame) (s : State) : s.concluded true f = { s with
    le := { s.le with yieldFlag := true }
    au := { s.au with order := f.order + 1, orderHold := false }
    ss := ⟨none, none, 0⟩
    hp := { s.hp with queue := s.hp.queue.map (fun r => { r with inAttempt := false }) } } := rfl

/-- The conclusion of a peer's frame. -/
theorem State.concluded_peer (f : Frame) (s : State) :
    s.concluded false f = { s with au := { s.au with order := f.order + 1, orderHold := false } } := rfl

/-- The end of the slot window of an accepted frame that is not a duplicate station's (R80, R81, R94). -/
theorem exec_slotWindowEnd_accepted {own : Bool} {f : Frame} {s : State}
    (h : s.inSlotOf ⟨.good f, .none, own⟩ = true) (sender : own = true ↔ f.sender = s.me) :
    exec (.slotWindowEnd .nothing) s = .next (s.endSlot.handAccepted own f) := by
  obtain ⟨reset, line, heard⟩ := (s.inSlotOf_iff _).mp h
  have notDuplicate : ¬ (f.sender = s.me ∧ own = false) := by cases own <;> simp_all
  have same : s.endSlot.me = s.me := rfl
  calc exec (.slotWindowEnd .nothing) s = .next (s.unlessReset (State.closeSlot .nothing)) := rfl
    _ = .next (s.closeSlot .nothing) := by rw [State.unlessReset_of_false reset]
    _ = .next (s.endSlot.acceptFrame own (some f)) := by
      simp [State.closeSlot, State.slotRuns, line, heard, slotReport, slotOutcome, State.takeOutcome,
        Classification.hand]
    _ = .next (s.endSlot.handAccepted own f) := by
      simp [State.acceptFrame, same, notDuplicate]

/-- A frame whose number is the station's own is counted to be applied at a station that holds part 0 (R84, R85). -/
theorem State.counting_of_order {f : Frame} {s : State} (station : s.station = .inStep ∨ s.station = .joining)
    (part : s.holdsPart 0 = true) (order : f.order = s.au.order) : s.counting f = .apply := by
  have installed : s.tu.installed ≠ 0 := by
    intro none; simp [State.holdsPart, none] at part
  rcases station with station | station
  · simp [State.counting, station, order]
  · simpa [State.counting, station, order] using installed

section
variable {own : Bool} {tag : Octet} {f : Frame} {s : State}

/-- The slot ended and the frame in hand, block by block. -/
theorem State.settledBy_eq (h : s.hears own tag f = true) :
    s.endSlot.settledBy own = { s with
      le := { s.le with line := .idle, gapCount := 0, rxBits := [] }
      au := { s.au with clusterKnown := true, partialFrame := [], heard := none }
      ss := if own then { s.ss with counted := none, counter := 0 } else s.ss
      hp := (s.counted own f).hp } := by
  cases own with
  | false => rfl
  | true =>
    obtain ⟨-, -, -, -, attempt, counted, hand, -⟩ := (s.hearsOwn_iff tag f).mp h
    rw [State.settledBy, if_pos rfl, State.settleRequest_eq (s := s.endSlot) hand counted]
    rw [State.counted_hp, if_pos rfl, State.settledQueue_eq attempt]
    rfl

/-- Of the Membership Controller only what an equal frame leaves there is changed before the frame's effect. -/
theorem State.metBy_eq (h : s.hears own tag f = true) (hb : f.body.onItems = true) :
    s.metBy own f = { s.endSlot.settledBy own with mc := (s.counted own f).mc } := by
  rw [State.metBy, State.settledBy_eq h]
  cases own with
  | false =>
    obtain ⟨-, -, -, sender, -, standing⟩ := (s.hearsPeer_iff f).mp h
    exact State.hear_peer hb sender standing
  | true =>
    obtain ⟨-, sender, -, -, -, -, -, station, -⟩ := (s.hearsOwn_iff tag f).mp h
    exact State.hear_own hb sender station

/-- The two parts together, without the frame's effect, leave the frame counted. -/
theorem State.concluded_metBy (h : s.hears own tag f = true) (hb : f.body.onItems = true) :
    (s.metBy own f).concluded own f = s.counted own f := by
  rw [State.metBy_eq h hb, State.settledBy_eq h]
  cases own with
  | false =>
    obtain ⟨-, -, -, -, order, -⟩ := (s.hearsPeer_iff f).mp h
    rw [State.concluded_peer, order]
    rfl
  | true =>
    obtain ⟨-, -, order, lawful, attempt, -⟩ := (s.hearsOwn_iff tag f).mp h
    rw [State.concluded_own, State.counted_hp, if_pos rfl]
    simp only [State.counted, if_true, Bool.true_or, State.settledQueue_eq attempt, State.unmarked_tail lawful, order]

/-- R87 for a frame of chapters 1 and 2 whose number is the station's own: the counting is to apply, the station's state
stays, and the effect stands between the two parts. -/
theorem State.handAccepted_of_hears (h : s.hears own tag f = true) (hb : f.body.onItems = true) :
    s.endSlot.handAccepted own f = ((s.metBy own f).applyFrame own (if own then tag else 0) f).concluded own f := by
  obtain ⟨-, station, part, -, order, -⟩ := State.hears_facts h
  have counting : (s.endSlot.settledBy own).counting f = .apply := by
    rw [State.settledBy_eq h]; exact State.counting_of_order station part order
  have stays : (s.metBy own f).station = (s.endSlot.settledBy own).station := by
    rw [State.metBy_eq h hb, State.settledBy_eq h]; exact s.counted_station own f
  have attempt : own = true → s.endSlot.attemptMarked = false ∧ s.endSlot.attemptTag = tag := by
    rintro rfl
    obtain ⟨-, -, -, -, -, -, hand, -⟩ := (s.hearsOwn_iff tag f).mp h
    exact State.attempt_of_inHand (s := s.endSlot) hand
  have applies (t : Octet) : (s.metBy own f).applyStep .apply (s.endSlot.settledBy own).station own t f =
      (s.metBy own f).applyFrame own t f := by
    rw [State.applyStep, if_pos stays]
  unfold State.metBy State.settledBy at applies ⊢
  unfold State.settledBy at counting
  simp only [State.handAccepted, counting, State.takeOwnState, State.takeNamed_of_onItems hb, applies]
  cases own with
  | false => rfl
  | true =>
    obtain ⟨marked, tagged⟩ := attempt rfl
    simp only [marked, tagged]
    rfl

/-- A station that hears a frame of chapters 1 and 2 applies it between the two parts of its handling. -/
theorem exec_slotWindowEnd_of_hears (h : s.hears own tag f = true) (hb : f.body.onItems = true) :
    exec (.slotWindowEnd .nothing) s =
      .next (((s.metBy own f).applyFrame own (if own then tag else 0) f).concluded own f) := by
  obtain ⟨slot, -, -, sender, -, -⟩ := State.hears_facts h
  rw [exec_slotWindowEnd_accepted slot sender, State.handAccepted_of_hears h hb]

/-- The replica that the frame's effect meets is the one before. -/
theorem State.metBy_tu (h : s.hears own tag f = true) (hb : f.body.onItems = true) : (s.metBy own f).tu = s.tu := by
  rw [State.metBy_eq h hb, State.settledBy_eq h]

end

/-! ## A lock's operations commute with the conclusion -/

section
variable (own : Bool) (f : Frame) (s : State)

@[simp] theorem State.concluded_me : (s.concluded own f).me = s.me := by cases own <;> rfl
@[simp] theorem State.lock_concluded (l : LockNo) : (s.concluded own f).lock l = s.lock l := by cases own <;> rfl
@[simp] theorem State.claim_concluded (l : LockNo) : (s.concluded own f).claim l = s.claim l := by cases own <;> rfl

theorem State.concluded_setLock (l : LockNo) (r : LockRecord) :
    (s.setLock l r).concluded own f = (s.concluded own f).setLock l r := by cases own <;> rfl

theorem State.concluded_setClaim (l : LockNo) (c : ClaimRecord) :
    (s.setClaim l c).concluded own f = (s.concluded own f).setClaim l c := by cases own <;> rfl

theorem State.concluded_indicate (r : Indication) :
    (s.indicate r).concluded own f = (s.concluded own f).indicate r := by
  by_cases room : s.hp.indications.length < Config.indicationCapacity <;> cases own <;>
    simp [State.concluded_own, State.concluded_peer, State.indicate, State.onHp, HostPort.indicate, room]

theorem State.concluded_grantHere (l : LockNo) :
    (s.grantHere l).concluded own f = (s.concluded own f).grantHere l := by
  simp [State.grantHere, State.concluded_indicate, State.concluded_setClaim]

theorem State.concluded_passOn (l : LockNo) : (s.passOn l).concluded own f = (s.concluded own f).passOn l := by
  simp only [State.passOn_eq, State.lock_concluded, State.concluded_me]
  split
  · exact s.concluded_setLock own f l _
  · split <;> simp only [State.concluded_grantHere, State.concluded_setLock]

theorem State.concluded_claimFromReplica (l : LockNo) :
    (s.claimFromReplica l).concluded own f = (s.concluded own f).claimFromReplica l := by
  simp only [State.claimFromReplica, State.lock_concluded, State.claim_concluded, State.concluded_me]
  split
  · exact s.concluded_setClaim own f l _
  · split <;> exact s.concluded_setClaim own f l _

theorem State.concluded_applyRelease (sender : Station) (sent : Bool) (tag : Octet) (l : LockNo) :
    (s.applyRelease sender sent tag l).concluded own f = (s.concluded own f).applyRelease sender sent tag l := by
  simp only [State.applyRelease, State.lock_concluded]
  split
  · split <;> simp [State.concluded_indicate, State.concluded_setClaim, ← State.concluded_passOn]
  · split <;> simp [State.concluded_indicate, State.concluded_claimFromReplica]

theorem State.concluded_applyWithdraw (sender : Station) (sent : Bool) (tag : Octet) (l : LockNo) :
    (s.applyWithdraw sender sent tag l).concluded own f = (s.concluded own f).applyWithdraw sender sent tag l := by
  simp only [State.applyWithdraw, State.lock_concluded, State.claim_concluded]
  split
  · split <;> simp [State.concluded_indicate, State.concluded_setClaim, State.concluded_setLock]
  · split
    · split <;> simp [State.concluded_indicate, State.concluded_setClaim]
    · split <;> simp [State.concluded_indicate, State.concluded_setClaim]

end

/-! ## A frame with an effect on one part (R3, R84, R85) -/

section
variable {own : Bool} {tag : Octet} {f : Frame} {s : State}

/-- A station that hears a frame of chapters 1 and 2 counts it, and applies its effect where it holds the part the effect
is on: the effect commutes with the conclusion, so it can be read as coming last. -/
theorem exec_slotWindowEnd_of_effect {part : PartNo} {effect : State → State} (h : s.hears own tag f = true)
    (hb : f.body.onItems = true)
    (applies : ∀ t : State, t.hasInstalled 0 = true → t.standing f.sender = .member →
      t.applyFrame own (if own then tag else 0) f = if t.hasInstalled part then effect t else t)
    (commutes : ∀ t : State, (effect t).concluded own f = effect (t.concluded own f)) :
    exec (.slotWindowEnd .nothing) s =
      .next (if s.hasInstalled part then effect (s.counted own f) else s.counted own f) := by
  obtain ⟨-, -, part0, -, -, standing⟩ := State.hears_facts h
  have tu := State.metBy_tu h hb
  have installed (p : PartNo) : (s.metBy own f).hasInstalled p = s.hasInstalled p := by
    rw [State.hasInstalled, tu]; rfl
  have member : (s.metBy own f).standing f.sender = .member := by
    rw [State.standing, State.entry, tu]; exact standing
  rw [exec_slotWindowEnd_of_hears h hb, applies _ ((installed 0).trans part0) member, installed part]
  split
  · rw [commutes, State.concluded_metBy h hb]
  · rw [State.concluded_metBy h hb]

theorem exec_slotWindowEnd_release {l : LockNo} (h : s.hears own tag f = true) (body : f.body = .release l) :
    exec (.slotWindowEnd .nothing) s = .next (if s.holdsPart (1 + l.val / 4) then
      (s.counted own f).applyRelease f.sender own tag l else s.counted own f) := by
  refine exec_slotWindowEnd_of_effect (part := lockPart l) h (by rw [body]; rfl) (fun t part0 member => ?_)
    (fun t => t.concluded_applyRelease own f f.sender own tag l)
  cases own <;> simp [State.applyFrame, body, part0, member, State.applyRelease]

theorem exec_slotWindowEnd_withdraw {l : LockNo} (h : s.hears own tag f = true) (body : f.body = .withdraw l) :
    exec (.slotWindowEnd .nothing) s = .next (if s.holdsPart (1 + l.val / 4) then
      (s.counted own f).applyWithdraw f.sender own tag l else s.counted own f) := by
  refine exec_slotWindowEnd_of_effect (part := lockPart l) h (by rw [body]; rfl) (fun t part0 member => ?_)
    (fun t => t.concluded_applyWithdraw own f f.sender own tag l)
  cases own <;> simp [State.applyFrame, body, part0, member, State.applyWithdraw]

end

section
variable (own : Bool) (f : Frame) (s : State) (l : LockNo)

theorem State.lock_counted : (s.counted own f).lock l = s.lock l := rfl
theorem State.me_counted : (s.counted own f).me = s.me := rfl
theorem State.claim_counted : (s.counted own f).claim l = s.claim l := by cases own <;> rfl

end

/-! ## RELEASE and WITHDRAW, case by case (R7, R8, R16, R17) -/

section
variable {own : Bool} {sender : Station} {l : LockNo} {s : State} (tag : Octet)

/-- The holder's RELEASE of a lock that no station waits for. -/
theorem State.applyRelease_of_no_waiter (holder : (s.lock l).holder = some sender) (queue : (s.lock l).waiters = []) :
    s.applyRelease sender own tag l =
      ((s.setLock l ⟨none, []⟩).setClaimAt own l (s.claim l).ended).indicateAt own (.released tag l) := by
  cases own <;> simp [State.applyRelease, holder, State.passOn_eq, queue, State.setClaimAt, State.indicateAt]

/-- The holder's RELEASE of a lock that another station than this one waits for first. -/
theorem State.applyRelease_of_waiter {w : Station} {rest : List Station} (holder : (s.lock l).holder = some sender)
    (queue : (s.lock l).waiters = w :: rest) (elsewhere : w ≠ s.me) :
    s.applyRelease sender own tag l =
      ((s.setLock l ⟨some w, rest⟩).setClaimAt own l (s.claim l).ended).indicateAt own (.released tag l) := by
  cases own <;>
    simp [State.applyRelease, holder, State.passOn_eq, queue, elsewhere, State.setClaimAt, State.indicateAt]

/-- A peer's RELEASE of a lock that this station waits for first. -/
theorem State.applyRelease_of_waiter_here {w : Station} {rest : List Station} (holder : (s.lock l).holder = some sender)
    (queue : (s.lock l).waiters = w :: rest) (here : w = s.me) :
    s.applyRelease sender false tag l = (s.setLock l ⟨some w, rest⟩).grantHere l := by
  simp [State.applyRelease, holder, State.passOn_eq, queue, here]

/-- A RELEASE from a station that is not the holder changes no lock; its sender takes its phase from the replica. -/
theorem State.applyRelease_of_not_holder (me : own = true ↔ sender = s.me) (holder : (s.lock l).holder ≠ some sender) :
    s.applyRelease sender own tag l = (s.setClaimAt own l
      (if sender ∈ (s.lock l).waiters then { s.claim l with phase := (s.claim l).waitingPhase }
        else (s.claim l).ended)).indicateAt own (.refused tag .notHolder (octetOfFin l) 0) := by
  cases own with
  | false => simp [State.applyRelease, holder, State.setClaimAt, State.indicateAt]
  | true =>
    obtain rfl := me.mp rfl
    by_cases waits : s.me ∈ (s.lock l).waiters <;>
      simp [State.applyRelease, holder, State.claimFromReplica, waits, State.setClaim_indicate, State.setClaimAt,
        State.indicateAt]

/-- A WITHDRAW from a waiter. -/
theorem State.applyWithdraw_of_waiter (waits : sender ∈ (s.lock l).waiters) :
    s.applyWithdraw sender own tag l =
      ((s.setLock l ⟨(s.lock l).holder, (s.lock l).waiters.erase sender⟩).setClaimAt own l
        (s.claim l).lessWithdrawal.ended).indicateAt own (.withdrawn (s.claim l).tag l) := by
  cases own <;> simp [State.applyWithdraw, waits, State.setClaimAt, State.indicateAt, ClaimRecord.lessWithdrawal]

/-- A WITHDRAW from the holder. -/
theorem State.applyWithdraw_of_holder (waits : sender ∉ (s.lock l).waiters) (holder : (s.lock l).holder = some sender) :
    s.applyWithdraw sender own tag l =
      (s.setClaimAt own l (s.claim l).lessWithdrawal).indicateAt own (.tooLate tag .withdraw (octetOfFin l)) := by
  cases own <;> simp [State.applyWithdraw, waits, holder, State.setClaimAt, State.indicateAt]

/-- A WITHDRAW from a station that neither waits nor holds. -/
theorem State.applyWithdraw_of_other (waits : sender ∉ (s.lock l).waiters) (holder : (s.lock l).holder ≠ some sender) :
    s.applyWithdraw sender own tag l =
      (s.setClaimAt own l
        (if (s.claim l).phase = .waiting ∨ (s.claim l).phase = .withdrawQueued then (s.claim l).lessWithdrawal.ended
          else (s.claim l).lessWithdrawal)).indicateAt own (.refused tag .notWaiting (octetOfFin l) 0) := by
  cases own with
  | false => simp [State.applyWithdraw, waits, holder, State.setClaimAt, State.indicateAt]
  | true => simp only [State.applyWithdraw, if_neg waits, if_neg holder]; rfl

end

/-! ## What the law of a lock record gives (R1) -/

theorem LockRecord.nodup_of_lawful {r : LockRecord} (h : r.lawful = true) : r.waiters.Nodup := by
  simp only [LockRecord.lawful, Bool.and_eq_true, decide_eq_true_eq] at h
  exact h.1.1

theorem LockRecord.holder_not_waiting {r : LockRecord} {t : Station} (h : r.lawful = true) (holder : r.holder = some t) :
    t ∉ r.waiters := by
  simp only [LockRecord.lawful, holder, Bool.and_eq_true] at h
  simpa using h.2

/-! ## The statements -/

/-- Settles O38: the step counts the RELEASE and applies it, and each clause is one case of its effect. -/
theorem releaseApplied : Obligations.ReleaseApplied := by
  intro own tag f s l h body
  dsimp only
  obtain ⟨-, -, -, me, -, -⟩ := State.hears_facts h
  rw [← State.me_counted own f s] at me
  rw [exec_slotWindowEnd_release h body, ← State.claim_counted own f s l, ← State.lock_counted own f s l,
    ← State.me_counted own f s]
  refine ⟨fun lacks => by rw [lacks]; rfl, fun holds lawful => ?_⟩
  rw [if_pos holds]
  refine ⟨fun holder => ⟨fun queue => ?_, fun w rest queue => ⟨fun elsewhere => ?_, fun here => ?_⟩⟩,
    fun holder => ⟨fun waits => ?_, fun waits => ?_⟩⟩
  · rw [State.applyRelease_of_no_waiter tag holder queue]; rfl
  · rw [State.applyRelease_of_waiter tag holder queue elsewhere]; rfl
  · have notHolder : f.sender ≠ (s.counted own f).me := by
      have notWaiting := LockRecord.holder_not_waiting lawful holder
      rw [queue, here] at notWaiting
      exact List.ne_of_not_mem_cons notWaiting
    obtain rfl : own = false := by rw [← Bool.not_eq_true, me]; exact notHolder
    exact ⟨rfl, by rw [State.applyRelease_of_waiter_here tag holder queue here]; rfl⟩
  · rw [State.applyRelease_of_not_holder tag me holder, if_pos waits]; rfl
  · rw [State.applyRelease_of_not_holder tag me holder, if_neg waits]; rfl

/-- Settles O39: the step counts the WITHDRAW and applies it, and each clause is one case of its effect. -/
theorem withdrawApplied : Obligations.WithdrawApplied := by
  intro own tag f s l h body
  dsimp only
  rw [exec_slotWindowEnd_withdraw h body, ← State.claim_counted own f s l, ← State.lock_counted own f s l]
  refine ⟨fun lacks => by rw [lacks]; rfl, fun holds lawful => ?_⟩
  rw [if_pos holds]
  refine ⟨fun waits => ?_, fun holder => ?_, fun waits holder => ⟨fun phase => ?_, fun notWaiting notQueued => ?_⟩⟩
  · rw [State.applyWithdraw_of_waiter tag waits, (LockRecord.nodup_of_lawful lawful).erase_eq_filter]; rfl
  · rw [State.applyWithdraw_of_holder tag (LockRecord.holder_not_waiting lawful holder) holder]; rfl
  · rw [State.applyWithdraw_of_other tag waits holder, if_pos phase]; rfl
  · rw [State.applyWithdraw_of_other tag waits holder, if_neg (not_or.mpr ⟨notWaiting, notQueued⟩)]; rfl

end Sys2Proof.Machine
end

section
/-!
SUPPORT. The watch commits (R43, R44): a commit's ordered checks read one by one, the operands of ARM WATCH and DISARM
WATCH, and the slot that a commit arms; then the statement on both.
-/

namespace Sys2Proof.Machine

/-! ## A commit's checks, one by one (R12, R158) -/

@[simp] theorem State.committed_nil (s passed : State) : s.committed [] passed = passed := rfl

@[simp] theorem State.committed_cons (s : State) (fails : Bool) (r : CommitResult) (rest : List (Bool × CommitResult))
    (passed : State) :
    s.committed ((fails, r) :: rest) passed = if fails then s.refuse r else s.committed rest passed := by
  cases fails <;> rfl

/-- The checks of a list's first part come before those of its second. -/
theorem State.committed_append (s : State) (first second : List (Bool × CommitResult)) (passed : State) :
    s.committed (first ++ second) passed = s.committed first (s.committed second passed) := by
  rw [State.committed, firstFailing_append]
  cases h : firstFailing first <;> simp [State.committed, h]

/-! ## The operands of the watch commits (Table 10-2, Table 12-6) -/

theorem finOfOctet_of_le {n : Nat} {o : Octet} (h : n ≤ o.toNat) : finOfOctet n o = none := by
  simp [finOfOctet, h]

theorem finOfOctet_octetOfFin {n : Nat} (small : n ≤ 256) (i : Fin n) : finOfOctet n (octetOfFin i) = some i := by
  have octet : i.val % 256 = i.val := Nat.mod_eq_of_lt (i.isLt.trans_le small)
  simp [finOfOctet, octetOfFin, octetOf, octet]

/-- REQUEST B of an ARM WATCH: the slot in bits 7 and 6, the condition's code in bits 5 and 4, the station in bits 3
to 0. -/
def armOctet (i : SlotNo) (code : Fin 4) (k : Station) : Octet := BitVec.ofNat 8 (i.val * 64 + code.val * 16 + k.val)

section
variable (i : SlotNo) (code : Fin 4) (k : Station)

theorem armOctet_toNat : (armOctet i code k).toNat = i.val * 64 + code.val * 16 + k.val := by
  simp only [armOctet, BitVec.toNat_ofNat]
  omega

@[simp] theorem armSlot_armOctet : armSlot (armOctet i code k) = i := by
  apply Fin.ext
  simp only [armSlot, armOctet_toNat]
  omega

@[simp] theorem armStation_armOctet : armStation (armOctet i code k) = k := by
  apply Fin.ext
  simp only [armStation, armOctet_toNat]
  omega

/-- Codes 0 to 2 name the conditions, and code 3 none (R177). -/
theorem armCondition_armOctet : armCondition (armOctet i code k) =
    if code = 0 then some .equal else if code = 1 then some .notEqual
    else if code = 2 then some .anyChange else none := by
  have field : (i.val * 64 + code.val * 16 + k.val) / 16 % 4 = code.val := by omega
  simp only [armCondition, armOctet_toNat, field]
  fin_cases code <;> rfl

theorem armCondition_armOctet_isNone : (armCondition (armOctet i code k)).isNone = (code == 3) := by
  rw [armCondition_armOctet]
  decide +revert

end

/-! ## The slot that a commit arms (R43) -/

/-- The watch that REQUEST B to D ask for, ANY CHANGE standing for the code that names no condition. -/
def State.watchAsked (tag : Octet) (s : State) : WatchSlot :=
  let k := armStation s.hp.requestB
  let condition := (armCondition s.hp.requestB).getD .anyChange
  ⟨true, tag, k, condition, if condition = .anyChange then s.word k else s.matchArgument⟩

/-- The slot takes the watch, and the answer names the slot, the station and its word. -/
def State.watchArmed (i : SlotNo) (w : WatchSlot) (s : State) : State :=
  (s.setWatch i w).answer .accepted (octetOfFin i) (octetOfFin w.station) (highOctet (s.word w.station))
    (lowOctet (s.word w.station))

/-- The slot armed, and matched at once where its condition holds. -/
def State.armWatch (i : SlotNo) (w : WatchSlot) (s : State) : State :=
  if w.holds (s.word w.station) then (s.watchArmed i w).matchWatch i else s.watchArmed i w

section
variable {i : SlotNo} {w : WatchSlot} {s : State}

theorem WatchSlot.holds_iff_of_equal {v : Word16} (condition : w.condition = .equal) :
    w.holds v = true ↔ v = w.value := by
  simp [WatchSlot.holds, condition]

theorem WatchSlot.holds_iff_of_notEqual {v : Word16} (condition : w.condition = .notEqual) :
    w.holds v = true ↔ v ≠ w.value := by
  simp [WatchSlot.holds, condition]

/-- Where the condition holds at once, the commit reports the watch's tag, station and word, and leaves the slot
disarmed. -/
theorem State.armWatch_of_iff {P : Prop} [Decidable P] (h : w.holds (s.word w.station) = true ↔ P) :
    s.armWatch i w =
      if P then
        ((s.watchArmed i w).indicate (.watchMatched w.tag w.station (s.word w.station))).setWatch i
          { w with armed := false, tag := 0 }
      else s.watchArmed i w := by
  have slot : (s.watchArmed i w).watch i = w := (s.watch_setWatch i i w).trans (if_pos rfl)
  simp only [State.armWatch, h, State.matchWatch, slot]
  rfl

/-- ANY CHANGE does not hold of the word it takes for its value. -/
theorem State.armWatch_of_anyChange (condition : w.condition = .anyChange) (value : w.value = s.word w.station) :
    s.armWatch i w = s.watchArmed i w := by
  simp [State.armWatch, WatchSlot.holds, condition, value]

/-- The watch asked for, by the condition's code. -/
theorem State.watchAsked_of_operand {code : Fin 4} {k : Station} (h : s.hp.requestB = armOctet i code k) (tag : Octet) :
    s.watchAsked tag =
      if code = 0 then ⟨true, tag, k, .equal, s.matchArgument⟩
      else if code = 1 then ⟨true, tag, k, .notEqual, s.matchArgument⟩
      else ⟨true, tag, k, .anyChange, s.word k⟩ := by
  simp only [State.watchAsked, h, armStation_armOctet, armCondition_armOctet]
  fin_cases code <;> rfl

end

/-- ARM WATCH as an ordered list of checks: the slot is armed where all pass. -/
theorem State.commitArmWatch_eq (tag : Octet) (s : State) : s.commitArmWatch tag =
    s.committed (s.inStepChecks ++
      [(tag == 0, .badTag), (s.tagQueued tag || s.tagArmed tag, .duplicateTag),
       ((armCondition s.hp.requestB).isNone, .range), ((s.watch (armSlot s.hp.requestB)).armed, .already)])
      (s.armWatch (armSlot s.hp.requestB) (s.watchAsked tag)) := by
  rw [State.committed_append, State.commitArmWatch, State.localRefusal_eq, State.committed]
  cases firstFailing s.inStepChecks with
  | some r => rfl
  | none =>
    cases condition : armCondition s.hp.requestB <;>
      simp [State.armWatch, State.watchArmed, State.watchAsked, condition]

/-- DISARM WATCH of a slot above 3. -/
theorem State.commitDisarmWatch_of_lt {s : State} (h : 3 < s.hp.requestB.toNat) :
    s.commitDisarmWatch = s.committed (s.inStepChecks ++ [(true, .range)]) s := by
  have slot : s.slotArgument = none := finOfOctet_of_le h
  rw [State.committed_append, State.commitDisarmWatch, State.localRefusal_eq, slot]
  rfl

/-- DISARM WATCH of a slot: ANSWER B says whether it was armed (R44). -/
theorem State.commitDisarmWatch_of_slot {s : State} {i : SlotNo} (h : s.hp.requestB = octetOfFin i) :
    s.commitDisarmWatch = s.committed s.inStepChecks
      (if (s.watch i).armed then
        (s.setWatch i { s.watch i with armed := false, tag := 0 }).answer .accepted (octetOfFin i) 0x01 0 0
      else s.answer .accepted (octetOfFin i) 0x00 0 0) := by
  have slot : s.slotArgument = some i := by
    rw [State.slotArgument, h]; exact finOfOctet_octetOfFin (by decide) i
  rw [State.commitDisarmWatch, State.localRefusal_eq, slot]
  rfl

/-- Settles O18: REQUEST B decodes to the slot, the condition and the station, and each condition that a code names
holds of the station's word as its clause says. -/
theorem commitWatchChecked : Obligations.CommitWatchChecked := by
  refine ⟨fun tag s i k code commits operand => ?_, fun tag s commits => ?_⟩
  · have runs : exec (.armWatch tag) s = .next (s.commitArmWatch tag) :=
      congrArg _ (State.commitAs_of_commits commits _ tag)
    change s.hp.requestB = armOctet i code k at operand
    dsimp only
    rw [runs, State.commitArmWatch_eq, State.watchAsked_of_operand operand, operand, armSlot_armOctet,
      armCondition_armOctet_isNone]
    congr 2
    by_cases equal : code = 0
    · rw [if_pos equal, if_pos equal, State.armWatch_of_iff (WatchSlot.holds_iff_of_equal rfl)]; rfl
    · by_cases notEqual : code = 1
      · rw [if_neg equal, if_neg equal, if_pos notEqual, if_pos notEqual,
          State.armWatch_of_iff (WatchSlot.holds_iff_of_notEqual rfl)]
        rfl
      · rw [if_neg equal, if_neg equal, if_neg notEqual, if_neg notEqual, State.armWatch_of_anyChange rfl rfl]; rfl
  · have runs : exec (.disarmWatch tag) s = .next s.commitDisarmWatch :=
      congrArg _ (State.commitAs_of_commits commits _ tag)
    rw [runs]
    exact ⟨fun h => congrArg _ (State.commitDisarmWatch_of_lt h), fun _ h =>
      congrArg _ (State.commitDisarmWatch_of_slot h)⟩

end Sys2Proof.Machine
end

section
/-!
SUPPORT. The abandonment of a barrier (R28, R36): the effect of ABANDON case by case, and that it commutes with the
counting of the frame; then the statement.
-/

namespace Sys2Proof.Machine

/-! ## ABANDON, case by case -/

/-- A station leaves a barrier, which goes idle when empty (R28). -/
def BarrierRecord.without (sender : Station) (r : BarrierRecord) : BarrierRecord :=
  let set := dropStation r.arrived sender
  ⟨r.generation, if set = 0 then 0 else r.partyCount, set⟩

section
variable {own : Bool} {sender : Station} {b : BarrierNo} {g : Octet} {s : State} (tag : Octet)

/-- An ABANDON of the barrier's current generation by an arrived station. -/
theorem State.applyAbandon_of_arrived (current : g = (s.barrier b).generation)
    (arrived : hasStation (s.barrier b).arrived sender = true) :
    s.applyAbandon sender own tag b g =
      ((s.setBarrier b ((s.barrier b).without sender)).setArrivalAt own b noArrival).indicateAt own
        (.abandoned (s.arrival b).tag b g .applied) := by
  rw [State.applyAbandon, if_pos ⟨current, arrived⟩]
  cases own with
  | false => rfl
  | true => exact State.setArrival_indicate _ b _ _

/-- An ABANDON of another generation, or by a station that is not in the arrived set. -/
theorem State.applyAbandon_of_stale
    (stale : g ≠ (s.barrier b).generation ∨ hasStation (s.barrier b).arrived sender = false) :
    s.applyAbandon sender own tag b g =
      (s.setArrivalAt own b noArrival).indicateAt own (.tooLate tag .abandon (octetOfFin b)) := by
  have notApplied : ¬ (g = (s.barrier b).generation ∧ hasStation (s.barrier b).arrived sender = true) := by
    rwa [not_and_or, Bool.not_eq_true]
  rw [State.applyAbandon, if_neg notApplied]
  cases own with
  | false => rfl
  | true => exact s.setArrival_indicate b _ _

end

/-! ## A barrier's operations beside the counting of a frame -/

section
variable (own : Bool) (f : Frame) (s : State) (b : BarrierNo)

@[simp] theorem State.barrier_concluded : (s.concluded own f).barrier b = s.barrier b := by cases own <;> rfl
@[simp] theorem State.arrival_concluded : (s.concluded own f).arrival b = s.arrival b := by cases own <;> rfl
theorem State.barrier_counted : (s.counted own f).barrier b = s.barrier b := rfl
theorem State.arrival_counted : (s.counted own f).arrival b = s.arrival b := by cases own <;> rfl

theorem State.concluded_setBarrier (r : BarrierRecord) :
    (s.setBarrier b r).concluded own f = (s.concluded own f).setBarrier b r := by cases own <;> rfl

theorem State.concluded_setArrival (a : ArrivalRecord) :
    (s.setArrival b a).concluded own f = (s.concluded own f).setArrival b a := by cases own <;> rfl

theorem State.concluded_applyAbandon (sender : Station) (sent : Bool) (tag g : Octet) :
    (s.applyAbandon sender sent tag b g).concluded own f = (s.concluded own f).applyAbandon sender sent tag b g := by
  simp only [State.applyAbandon, State.barrier_concluded, State.arrival_concluded]
  split <;> split <;>
    simp only [State.concluded_setArrival, State.concluded_indicate, State.concluded_setBarrier]

end

/-- A station that hears an ABANDON counts it, and applies it where it holds the barrier's part (R25, R28, R85). -/
theorem exec_slotWindowEnd_abandon {own : Bool} {tag : Octet} {f : Frame} {s : State} {b : BarrierNo} {g : Octet}
    (h : s.hears own tag f = true) (body : f.body = .abandon b g) :
    exec (.slotWindowEnd .nothing) s = .next (if s.holdsPart (9 + b.val / 4) then
      (s.counted own f).applyAbandon f.sender own tag b g else s.counted own f) := by
  refine exec_slotWindowEnd_of_effect (part := barrierPart b) h (by rw [body]; rfl) (fun t part0 member => ?_)
    (fun t => t.concluded_applyAbandon own f b f.sender own tag g)
  cases own <;> simp [State.applyFrame, body, part0, member, State.applyAbandon]

/-- Settles O41: the step counts the ABANDON and applies it, and each clause is one case of its effect. -/
theorem abandonApplied : Obligations.AbandonApplied := by
  intro own tag f s b g h body
  dsimp only
  rw [exec_slotWindowEnd_abandon h body, ← State.barrier_counted own f s b, ← State.arrival_counted own f s b]
  refine ⟨fun lacks => by rw [lacks]; rfl, fun holds => ?_⟩
  rw [if_pos holds]
  refine ⟨fun current arrived => ?_, fun stale => ?_⟩
  · rw [State.applyAbandon_of_arrived tag current arrived, current]; rfl
  · rw [State.applyAbandon_of_stale tag stale]; rfl

end Sys2Proof.Machine
end

section
/-!
SUPPORT. The commit of CANCEL (R163): the request it names in a lawful queue, its removal as one record, its ordered
checks; then what each kind of request returns to its local record (R20, R37), and the statement.
-/

namespace Sys2Proof.Machine

/-! ## The request that a tag names (R159) -/

section
variable {s : State} {r : Request}

theorem State.tags_nodup (lawful : s.requestsLawful = true) : (s.hp.queue.map (·.tag)).Nodup := by
  simp only [State.requestsLawful, Bool.and_eq_true, decide_eq_true_eq] at lawful
  exact lawful.1.1.1.2

/-- In a lawful queue a tag names one request. -/
theorem State.eq_of_tag_eq (lawful : s.requestsLawful = true) (mem : r ∈ s.hp.queue) {x : Request}
    (hx : x ∈ s.hp.queue) (tag : x.tag = r.tag) : x = r :=
  List.inj_on_of_nodup_map (State.tags_nodup lawful) hx mem tag

theorem State.find?_tag (lawful : s.requestsLawful = true) (mem : r ∈ s.hp.queue) :
    s.hp.queue.find? (fun x => x.tag == r.tag) = some r := by
  cases found : s.hp.queue.find? (fun x => x.tag == r.tag) with
  | none => simpa using List.find?_eq_none.mp found r mem
  | some x =>
    have tag := List.find?_some found
    rw [State.eq_of_tag_eq lawful mem (List.mem_of_find?_eq_some found) (by simpa using tag)]

/-- A test of the requests with a tag is a test of the one that the tag names. -/
theorem State.any_tag (lawful : s.requestsLawful = true) (mem : r ∈ s.hp.queue) (test : Request → Bool) :
    s.hp.queue.any (fun x => x.tag == r.tag && test x) = test r := by
  rw [Bool.eq_iff_iff, List.any_eq_true]
  constructor
  · rintro ⟨x, hx, h⟩
    obtain ⟨tag, passes⟩ := Bool.and_eq_true_iff.mp h
    rwa [State.eq_of_tag_eq lawful mem hx (beq_iff_eq.mp tag)] at passes
  · exact fun h => ⟨r, mem, by simp [h]⟩

/-! ## A request leaves the queue unapplied -/

/-- The removal of a queued request, field by field. -/
theorem State.removeRequest_eq_withoutRequest (found : s.hp.queue.find? (fun x => x.tag == r.tag) = some r) :
    s.removeRequest r.tag = s.withoutRequest (fun x => x.tag == r.tag) := by
  by_cases counted : s.ss.counted = some (.request r.tag) <;>
    simp [State.removeRequest, State.withoutRequest, found, counted, State.onHp, State.uncount, State.onSs]

theorem State.returnRecord_queue (s : State) (body : RequestBody) : (s.returnRecord body).hp.queue = s.hp.queue :=
  congrArg (·.hp.queue) (s.returnRecord_frame body)

/-- A cancelled request is one request fewer in the queue. -/
theorem State.cancelRequest_length (mem : r ∈ s.hp.queue) :
    (s.cancelRequest r).hp.queue.length = s.hp.queue.length - 1 := by
  rw [State.cancelRequest, State.returnRecord_queue, State.indicate_hp_queue, State.removeRequest_queue]
  exact List.length_eraseP_of_mem mem (beq_self_eq_true r.tag)

/-! ## The checks of CANCEL in their order (R163) -/

/-- HALTED, NOT IN STEP, BAD TAG, UNKNOWN TAG, ALREADY. -/
def State.cancelChecks (s : State) : List (Bool × CommitResult) :=
  [(s.station == .halted, .halted), (s.station == .watch, .notInStep), (s.hp.requestB == 0, .badTag),
   (!s.hp.queue.any (fun x => x.tag == s.hp.requestB), .unknownTag),
   (s.hp.queue.any (fun x => x.tag == s.hp.requestB && x.inAttempt && x.cancelMark), .already)]

/-- A CANCEL of a tag that no request has. -/
theorem State.commitCancel_of_unknown (unknown : s.hp.queue.any (fun x => x.tag == s.hp.requestB) = false) :
    s.commitCancel = s.committed s.cancelChecks s := by
  have absent : s.hp.queue.find? (fun x => x.tag == s.hp.requestB) = none := by
    simpa [List.find?_eq_none] using unknown
  simp [State.commitCancel, State.cancelChecks, unknown, absent]

/-- A CANCEL of a queued request: the request is removed, or marked where it is in attempt. -/
theorem State.commitCancel_of_named (lawful : s.requestsLawful = true) (mem : r ∈ s.hp.queue)
    (named : r.tag = s.hp.requestB) :
    s.commitCancel = s.committed s.cancelChecks
      (if r.inAttempt then (s.setCancelMark s.hp.requestB).answer .accepted 0x02 (octetOf s.hp.queue.length) 0 0
      else (s.cancelRequest r).answer .accepted 0x01 (octetOf (s.hp.queue.length - 1)) 0 0) := by
  have known : s.hp.queue.any (fun x => x.tag == r.tag) = true := by
    simpa using State.any_tag lawful mem (fun _ => true)
  have marked := State.any_tag lawful mem (fun x => x.inAttempt && x.cancelMark)
  simp only [← Bool.and_assoc] at marked
  simp only [State.commitCancel, State.cancelChecks, ← named, State.find?_tag lawful mem, known, marked,
    State.cancelRequest_length mem]
  cases r.inAttempt <;> simp

end

/-! ## What a request returns to its local record (R20, R37) -/

section
variable (s : State)

/-- RELEASE QUEUED goes back to HELD (R20). -/
theorem State.returnRecord_release (l : LockNo) : s.returnRecord (.release l) =
    if (s.claim l).phase = .releaseQueued then s.setClaim l ⟨.held, (s.claim l).tag, (s.claim l).withdrawals⟩
    else s := rfl

/-- One withdrawal fewer, and after the last WITHDRAW QUEUED goes back to WAITING (R20). -/
theorem State.returnRecord_withdraw (l : LockNo) : s.returnRecord (.withdraw l) =
    if (s.claim l).phase = .withdrawQueued ∧ (s.claim l).withdrawals - 1 = 0 then
      s.setClaim l ⟨.waiting, (s.claim l).tag, (s.claim l).withdrawals - 1⟩
    else s.setClaim l ⟨(s.claim l).phase, (s.claim l).tag, (s.claim l).withdrawals - 1⟩ := rfl

/-- An unapplied arrival ends (R37). -/
theorem State.returnRecord_arrive (b : BarrierNo) (count : Nat) : s.returnRecord (.arrive b count) =
    if (s.arrival b).phase = .arriveQueued ∨
        ((s.arrival b).phase = .abandonQueued ∧ (s.arrival b).generation = none) then
      s.setArrival b ⟨.none, 0, none⟩
    else s := rfl

/-- ABANDON QUEUED goes back to ARRIVE QUEUED where there is no generation, and to ARRIVED otherwise (R37). -/
theorem State.returnRecord_abandon (b : BarrierNo) : s.returnRecord (.abandon b) =
    if (s.arrival b).phase = .abandonQueued then
      s.setArrival b ⟨if (s.arrival b).generation = none then .arriveQueued else .arrived, (s.arrival b).tag,
        (s.arrival b).generation⟩
    else s := rfl

end

/-- Settles O17: the tag names one request of a lawful queue, which decides the checks and is removed or marked; each
clause on a record is one branch of its return. -/
theorem commitCancelChecked : Obligations.CommitCancelChecked := by
  refine ⟨fun tag s commits lawful => ?_, fun s => ⟨fun l => ?_, fun b => ?_, rfl, rfl, fun _ => rfl, fun _ _ => rfl⟩⟩
  · have runs : exec (.commitCancel tag) s = .next s.commitCancel :=
      congrArg _ (State.commitAs_of_commits commits _ tag)
    dsimp only
    rw [runs]
    refine ⟨fun unknown => congrArg _ (State.commitCancel_of_unknown unknown), fun r mem named => ?_⟩
    rw [State.commitCancel_of_named lawful mem named]
    refine ⟨fun waiting => ?_, fun attempted => by rw [attempted]; rfl⟩
    rw [State.cancelRequest, State.removeRequest_eq_withoutRequest (State.find?_tag lawful mem), named, waiting]
    rfl
  · refine ⟨rfl, rfl, fun queued => ?_, fun other => ?_, fun queued last => ?_, fun more => ?_⟩
    · rw [State.returnRecord_release, if_pos queued]
    · rw [State.returnRecord_release, if_neg other]
    · rw [State.returnRecord_withdraw, if_pos ⟨queued, last⟩, last]
    · rw [State.returnRecord_withdraw, if_neg (not_and_or.mpr more)]
  · refine ⟨fun count => ⟨fun unapplied => ?_, fun applied => ?_⟩, fun queued unapplied => ?_,
      fun g queued applied => ?_, fun other => ?_⟩
    · rw [State.returnRecord_arrive, if_pos unapplied]
    · rw [State.returnRecord_arrive, if_neg applied]
    · rw [State.returnRecord_abandon, if_pos queued, unapplied, if_pos rfl]
    · rw [State.returnRecord_abandon, if_pos queued, applied, if_neg (Option.some_ne_none g)]
    · rw [State.returnRecord_abandon, if_neg other]

end Sys2Proof.Machine
end

section
/-!
SUPPORT. The four queries (R169 to R171): a commit taken in IN STEP with one argument, said once; the position of a
station in a wait queue, the source of a roster, and a word as two octets; then the statement.
-/

namespace Sys2Proof.Machine

/-! ## A commit taken in IN STEP alone, with one argument (R169) -/

/-- HALTED, NOT IN STEP, and RANGE where the operand is no argument; otherwise what the argument gives. -/
def State.commitInStep {α : Type} (argument : Option α) (passed : α → State) (s : State) : State :=
  match s.localRefusal with
  | some r => s.refuse r
  | none =>
    match argument with
    | none => s.refuse .range
    | some a => passed a

section
variable {α : Type} {passed : α → State} {s : State}

theorem State.commitInStep_none :
    s.commitInStep none passed = s.committed (s.inStepChecks ++ [(true, .range)]) s := by
  rw [State.commitInStep, State.localRefusal_eq, State.committed_append]
  rfl

theorem State.commitInStep_some (a : α) : s.commitInStep (some a) passed = s.committed s.inStepChecks (passed a) := by
  rw [State.commitInStep, State.localRefusal_eq]
  rfl

/-- A commit row of this form, by its operand: above the highest argument, and an argument. -/
theorem State.commitAs_of_inStep {n : Nat} {kind : RequestKind} {effect : State → State} {passed : Fin n → State}
    (small : n ≤ 256) (form : effect s = s.commitInStep (finOfOctet n s.hp.requestB) passed)
    (commits : s.commits kind = true) (tag : Octet) :
    (n ≤ s.hp.requestB.toNat → (.next (s.commitAs (some kind) effect tag) : Out) =
      .next (s.committed (s.inStepChecks ++ [(true, .range)]) s)) ∧
    (∀ i : Fin n, s.hp.requestB = octetOfFin i → (.next (s.commitAs (some kind) effect tag) : Out) =
      .next (s.committed s.inStepChecks (passed i))) := by
  rw [State.commitAs_of_commits commits, form]
  refine ⟨fun above => ?_, fun i operand => ?_⟩
  · rw [finOfOctet_of_le above, State.commitInStep_none]
  · rw [operand, finOfOctet_octetOfFin small, State.commitInStep_some]

end

section
variable (s : State)

theorem State.commitQueryLock_eq : s.commitQueryLock = s.commitInStep (finOfOctet 32 s.hp.requestB) (fun l =>
    s.answer .accepted (holderOctet (s.lock l).holder) (octetOf (s.lock l).waiters.length)
      (octetOf (queuePosition (s.lock l).waiters s.me)) (s.claim l).phase.code) := by
  unfold State.commitQueryLock State.lockArgument State.commitInStep
  cases s.localRefusal <;> cases finOfOctet _ s.hp.requestB <;> rfl

theorem State.commitQueryBarrier_eq : s.commitQueryBarrier = s.commitInStep (finOfOctet 8 s.hp.requestB) (fun b =>
    s.answer .accepted (s.barrier b).generation (octetOf (s.barrier b).partyCount)
      (octetOf (stationCount (s.barrier b).arrived)) (s.arrival b).phase.code) := by
  unfold State.commitQueryBarrier State.barrierArgument State.commitInStep
  cases s.localRefusal <;> cases finOfOctet _ s.hp.requestB <;> rfl

theorem State.commitQueryRoster_eq : s.commitQueryRoster = s.commitInStep (finOfOctet 16 s.hp.requestB) (fun t =>
    s.answer .accepted (s.standing t).code (highOctet (partSetWord (s.entry t).installed))
      (lowOctet (partSetWord (s.entry t).installed)) s.sourceOctet) := by
  unfold State.commitQueryRoster State.stationArgument State.commitInStep
  cases s.localRefusal <;> cases finOfOctet _ s.hp.requestB <;> rfl

theorem State.commitQueryWord_eq : s.commitQueryWord = s.commitInStep (finOfOctet 16 s.hp.requestB) (fun t =>
    s.answer .accepted (s.standing t).code 0x00 (highOctet (s.word t)) (lowOctet (s.word t))) := by
  unfold State.commitQueryWord State.stationArgument State.commitInStep
  cases s.localRefusal <;> cases finOfOctet _ s.hp.requestB <;> rfl

end

/-! ## The answers' octets -/

theorem highOctet_eq (w : Word16) : highOctet w = octetOf (w.toNat / 256) := by
  apply BitVec.eq_of_toNat_eq
  simp [highOctet, octetOf, Nat.shiftRight_eq_div_pow]

theorem lowOctet_eq (w : Word16) : lowOctet w = octetOf (w.toNat % 256) := by
  apply BitVec.eq_of_toNat_eq
  simp [lowOctet, octetOf]

theorem partSetWord_toNat (set : PartSet) : (partSetWord set).toNat = set.toNat := by
  simp only [partSetWord, BitVec.truncate_eq_setWidth, BitVec.toNat_setWidth]
  omega

/-- The position of a station in a wait queue is one more than its index (R169). -/
theorem queuePosition_eq (q : List Station) (t : Station) :
    queuePosition q t = (q.findIdx? (fun w => w == t)).elim 0 (· + 1) := by
  by_cases waits : t ∈ q
  · have index : q.findIdx? (fun w => w == t) = some (q.idxOf t) :=
      List.findIdx?_eq_some_iff_findIdx_eq.mpr ⟨List.idxOf_lt_length_iff.mpr waits, rfl⟩
    simp [queuePosition, waits, index]
  · have index : q.findIdx? (fun w => w == t) = none := by
      rw [List.findIdx?_eq_none_iff]
      exact fun x hx => beq_false_of_ne fun e => waits (e ▸ hx)
    simp [queuePosition, waits, index]

/-- The source is the lowest MEMBER (R63). -/
theorem rosterSource_eq_some_iff (roster : Vector RosterEntry 16) (t : Station) :
    rosterSource roster = some t ↔
      roster[t].standing = .member ∧ ∀ k < t, roster[k].standing ≠ .member := by
  have ascending : allStations = List.finRange 16 := by decide
  rw [rosterSource, ascending, ← Fin.find?_eq_find?_finRange, Fin.find?_eq_some_iff]
  simp

/-- ANSWER D of QUERY ROSTER where the roster holds a MEMBER (R171). -/
theorem State.sourceOctet_of_lowest {s : State} {t : Station} (member : s.standing t = .member)
    (lowest : ∀ k < t, s.standing k ≠ .member) : s.sourceOctet = octetOfFin t := by
  rw [State.sourceOctet, (rosterSource_eq_some_iff s.tu.roster t).mpr ⟨member, lowest⟩]

/-- Settles O19: each query is a commit taken in IN STEP with one argument, and its answer's octets read as the clause
says. -/
theorem queriesAnswered : Obligations.QueriesAnswered := by
  refine ⟨fun tag s => ⟨fun commits => ?_, fun commits => ?_⟩, fun tag s => ⟨fun commits => ?_, fun commits => ?_⟩⟩
  · obtain ⟨above, asked⟩ := State.commitAs_of_inStep (by decide) s.commitQueryLock_eq commits tag
    refine ⟨above, fun l h => (asked l h).trans ?_⟩
    rw [queuePosition_eq]
    cases (s.lock l).holder <;> cases (s.lock l).waiters.findIdx? (fun w => w == s.me) <;> rfl
  · exact State.commitAs_of_inStep (by decide) s.commitQueryBarrier_eq commits tag
  · obtain ⟨above, asked⟩ := State.commitAs_of_inStep (by decide) s.commitQueryRoster_eq commits tag
    refine ⟨above, fun k h => ⟨s.sourceOctet, (asked k h).trans ?_, fun _ => State.sourceOctet_of_lowest⟩⟩
    rw [highOctet_eq, lowOctet_eq, partSetWord_toNat]
    rfl
  · obtain ⟨above, asked⟩ := State.commitAs_of_inStep (by decide) s.commitQueryWord_eq commits tag
    refine ⟨above, fun k h => (asked k h).trans ?_⟩
    rw [highOctet_eq, lowOctet_eq]
    rfl

end Sys2Proof.Machine
end

section
/-!
SUPPORT. The status octets (R173, Table 12-4), field by field; then the statement.
-/

namespace Sys2Proof.Machine

/-- A flag stands in its own bit. -/
theorem flagBit_getLsbD (c : Bool) {n : Nat} (octet : n < 8) (i : Nat) :
    (flagBit c n).getLsbD i = (c && decide (n = i)) := by
  cases c <;> simp [flagBit, BitVec.getLsbD_twoPow, octet]

/-- The five flags stand below the state's field. -/
theorem flagBit_ushiftRight (c : Bool) {n : Nat} (low : n < 5) : flagBit c n >>> 5 = 0 := by
  cases c <;> decide +revert

/-- The state's field of PORT STATUS stands above the five flags. -/
theorem StationState.field_getLsbD (st : StationState) {i : Nat} (low : i < 5) :
    (octetOf (st.code * 32)).getLsbD i = false := by
  cases st <;> decide +revert

theorem StationState.code_le (st : StationState) : st.code ≤ 5 := by
  cases st <;> decide

section
variable (s : State)

theorem State.queueFull_iff : s.queueFull = true ↔ 8 ≤ s.hp.queue.length := decide_eq_true_iff

/-- The flags of PORT STATUS, by bit. -/
theorem State.portStatus_getLsbD {i : Nat} (low : i < 5) : s.portStatus.getLsbD i =
    (s.lineHeld && decide (4 = i) || s.hp.queue.isEmpty && decide (3 = i) || s.queueFull && decide (2 = i) ||
      s.hp.overrun && decide (1 = i) || !s.hp.indications.isEmpty && decide (0 = i)) := by
  simp [State.portStatus, flagBit_getLsbD, s.station.field_getLsbD low]

/-- The state's field of PORT STATUS. -/
theorem State.portStatus_state : s.portStatus.toNat / 32 = s.station.code := by
  have shifted : s.portStatus >>> 5 = octetOf (s.station.code * 32) >>> 5 := by
    simp [State.portStatus, BitVec.ushiftRight_or_distrib, flagBit_ushiftRight]
  have code := s.station.code_le
  calc s.portStatus.toNat / 32 = (s.portStatus >>> 5).toNat := by
        rw [BitVec.toNat_ushiftRight, Nat.shiftRight_eq_div_pow]
    _ = s.station.code * 32 % 256 / 32 := by
        rw [shifted, BitVec.toNat_ushiftRight, Nat.shiftRight_eq_div_pow, octetOf, BitVec.toNat_ofNat]
    _ = s.station.code := by omega

theorem State.stationOctet_toNat : s.stationOctet.toNat = s.station.code * 16 + s.straps.station.val := by
  have code := s.station.code_le
  rw [State.stationOctet, octetOf, BitVec.toNat_ofNat, State.me]
  omega

end

/-- Settles O8: each item is one bit or one field of its octet. -/
theorem statusReads : Obligations.StatusReads := by
  intro s
  simp only [State.hostRead]
  refine ⟨?_, ?_, ?_, ?_, ?_, s.portStatus_state, s.stationOctet_toNat⟩
  · rw [s.portStatus_getLsbD (by decide)]; simp
  · rw [s.portStatus_getLsbD (by decide)]; simp
  · rw [s.portStatus_getLsbD (by decide)]; simp [s.queueFull_iff]
  · rw [s.portStatus_getLsbD (by decide)]; simp
  · rw [s.portStatus_getLsbD (by decide)]; simp [State.lineHeld]

end Sys2Proof.Machine
end

section
/-!
SUPPORT. The invariant of the station's life is not kept by every step (R129, R162): it ties the request in attempt to the
attempt by its tag alone, so it admits a JOINING station whose LEAVE frame is on the line for a request that is not a LEAVE.
A commit of LEAVE finds no LEAVE in that queue, and cancels the request in attempt under its attempt.
-/

namespace Sys2Proof.Machine

/-- A JOINING station whose LEAVE frame is on the line for the request with tag 5, which is a CLAIM; a commit of LEAVE with
tag 7 waits. -/
def leaveFrameForClaim : State :=
  { State.reset with
    le := ⟨.contending, 0, false, []⟩
    mc := { MembershipController.resetValue with state := .joining }
    ss := ⟨some ⟨⟨0, 0, .leave⟩, some (.request 5)⟩, some (.request 5), 0⟩
    hp := { HostPort.resetValue with requestA := 0x02, queue := [⟨.claim 3, 5, true, false⟩] }
    pending := [.commitLeave 7] }

theorem leaveFrameForClaim_consistent : leaveFrameForClaim.lifeConsistent = true := by decide

/-- The attempt outlives the request it was built for (R162). -/
theorem leaveFrameForClaim_step : ∃ t, step leaveFrameForClaim = .next t ∧ t.lifeConsistent = false :=
  ⟨_, rfl, by decide⟩

/-- Refutes O58: a commit of LEAVE in JOINING takes the request in attempt out of the queue and leaves its attempt in
hand. -/
theorem not_lifeStaysConsistent : ¬ Obligations.LifeStaysConsistent := by
  rintro ⟨keeps, -⟩
  obtain ⟨t, runs, broken⟩ := leaveFrameForClaim_step
  exact Bool.false_ne_true (broken.symm.trans (keeps _ t leaveFrameForClaim_consistent runs))

end Sys2Proof.Machine
end

section
/-!
SUPPORT. The block, its resets and the plain accesses of the host port (chapters 8 and 10): which commands power-on reset
holds off, and the statements on the step, the resets, the registers and the indication window.
-/

namespace Sys2Proof.Machine

/-! ## What runs while power-on reset is released -/

/-- Every command but the reset pin's own is one that power-on reset holds off (R131, log 9). -/
theorem exec_eq_unlessReset (c : Instr) (asserted : c ≠ .resetnAsserted) (released : ∀ n b, c ≠ .powerOnReset n b) :
    ∃ effect : State → State, ∀ s, exec c s = .next (s.unlessReset effect) := by
  cases c with
  | powerOnReset n b => exact absurd rfl (released n b)
  | resetnAsserted => exact absurd rfl asserted
  | _ => exact ⟨_, fun _ => rfl⟩

/-- A step on an empty queue passes the head of an attempt. -/
theorem step_of_nil {s : State} (empty : s.pending = []) : step s = .next s.passHead := by
  simp [step, empty]

/-- Settles O1: on an empty queue the step is `State.passHead`, which wins the head of a contender and nothing else. -/
theorem stepRunsFrontCommand : Obligations.StepRunsFrontCommand := by
  refine ⟨fun _ _ => rfl, fun s empty => ⟨fun released contending => ?_, fun idle => ?_⟩⟩
  · rw [step_of_nil empty, State.passHead, State.unlessReset_of_false released]
    simp [State.winHead, contending, State.onLe]
  · rw [step_of_nil empty, State.passHead]
    rcases idle with asserted | line
    · rw [State.unlessReset_of_true asserted]
    · simp [State.unlessReset, State.winHead, line]

/-- Settles O2: the release of power-on reset is defined field by field. -/
theorem powerOnResetValues : Obligations.PowerOnResetValues := fun _ _ _ => rfl

/-- Settles O3: the reset state is one literal, on which each invariant evaluates. -/
theorem resetMeetsInvariants : Obligations.ResetMeetsInvariants := by
  refine ⟨fun s data pending => ?_, by decide, by decide, by decide, by decide⟩
  change Host.Outcome.next (State.afterReset ⟨0, 0⟩ s.hostData s.pending) = _
  rw [data, pending]
  rfl

/-- Settles O4: every command but the reset pin's own is held off. -/
theorem resetAssertedHolds : Obligations.ResetAssertedHolds := by
  refine ⟨fun _ => rfl, fun c s asserted notAssert notRelease => ?_, fun s asserted => by simp [State.hirqAsserted, asserted]⟩
  obtain ⟨effect, runs⟩ := exec_eq_unlessReset c notAssert notRelease
  rw [runs, State.unlessReset_of_true asserted]

/-! ## The registers and the indication window -/

/-- Settles O6: one case for each read position. -/
theorem indicationWindowReads : Obligations.IndicationWindowReads := by
  intro s released
  have runs : exec .indicationWindow s = .next s.readWindow :=
    congrArg _ (State.unlessReset_of_false released State.readWindow)
  rw [runs]
  refine ⟨fun empty => by simp [State.readWindow, HostPort.windowOctet, HostPort.advance, empty],
    fun r rest queue => ⟨?_, ?_, ?_, ?_, ?_⟩⟩ <;>
  · intro position
    simp [State.readWindow, HostPort.windowOctet, HostPort.advance, Indication.octets, queue, position]

/-- Settles O7: each register write is one field of the Host Port. -/
theorem hostWritesStored : Obligations.HostWritesStored := by
  refine ⟨fun o s released => ?_, fun o s released => ?_, fun s released => ?_⟩
  · have runs (offset : WriteOffset) :
        exec (.registerWrite offset o) s = .next (s.onHp (HostPort.write offset o)) :=
      congrArg _ (State.unlessReset_of_false released _)
    simp only [runs]
    exact ⟨rfl, rfl, rfl, rfl, rfl⟩
  · exact congrArg _ (State.unlessReset_of_false released (State.setEnables o))
  · simp [State.hirqAsserted, released]

/-- Settles O9: the two cases of the indication queue. -/
theorem indicationQueued : Obligations.IndicationQueued :=
  fun r _ => ⟨State.indicate_of_lt r, State.indicate_of_le r⟩

end Sys2Proof.Machine
end

section
/-!
SUPPORT. The commits of the queued kinds (R12 to R14, R32, R33, R41, R161, R162): each as its ordered list of checks and
the request it queues; the local answers of WITHDRAW and ABANDON, which take a request out of the queue; and a LEAVE that
empties the queue. Then the statements.
-/

namespace Sys2Proof.Machine

/-! ## The checks as lists -/

/-- The common checks, and then what a commit goes on to. -/
theorem State.queuedRefusal_match (s : State) (tag : Octet) (passed : State) :
    (match s.queuedRefusal tag with
      | some r => s.refuse r
      | none => passed) = s.committed (s.commonChecks tag) passed := by
  rw [State.queuedRefusal_eq]; rfl

theorem RequestKind.code_bounds (k : RequestKind) : 1 ≤ k.code.toNat ∧ k.code.toNat ≤ 17 := by
  cases k <;> decide

/-- No kind has a code outside Table 12-6. -/
theorem RequestKind.ofCode_of_unlisted {o : Octet} (h : o = 0 ∨ 0x11 < o.toNat) : RequestKind.ofCode o = none := by
  refine List.find?_eq_none.mpr fun k _ eq => ?_
  obtain rfl := beq_iff_eq.mp eq
  obtain ⟨low, high⟩ := k.code_bounds
  rcases h with zero | above
  · rw [zero] at low; exact absurd low (by decide)
  · omega

section
variable {s : State} (tag : Octet)

theorem State.commitUnknown_eq :
    s.commitUnknown = s.committed [(s.station == .halted, .halted), (true, .unknownKind)] s := by
  by_cases halted : s.station = .halted <;> simp [State.commitUnknown, halted]

theorem State.commitJoin_eq : s.commitJoin tag = s.committed
    [(s.station == .halted, .halted),
     (s.station == .joining || s.station == .inStep || s.station == .diverged, .alreadyMember),
     (tag == 0, .badTag),
     (s.hp.queue.any (fun r => r.tag == tag), .duplicateTag),
     (s.hp.queue.any (fun r => r.body == .join), .already)]
    (s.queuedRequest .join tag) := by
  have inside : (match s.tagRefusal tag with
      | some r => s.refuse r
      | none => if s.hp.queue.any (fun r => r.body == .join) then s.refuse .already else s.acceptQueued .join tag) =
      s.committed [(tag == 0, .badTag), (s.hp.queue.any (fun r => r.tag == tag), .duplicateTag),
        (s.hp.queue.any (fun r => r.body == .join), .already)] (s.queuedRequest .join tag) := by
    rw [State.tagRefusal_eq, State.acceptQueued_eq]
    simp only [firstFailing, State.committed_cons, State.committed_nil]
    split_ifs <;> rfl
  cases station : s.station <;> simp only [State.commitJoin, station]
  case watch => exact inside
  case outside => exact inside
  all_goals rfl

/-! ## The queued kinds -/

theorem State.commitClaimOf_of_lt (body : LockNo → RequestBody) (h : 31 < s.hp.requestB.toNat) :
    s.commitClaimOf body tag = s.committed (s.commonChecks tag ++ [(true, .range)]) s := by
  have none : s.lockArgument = none := finOfOctet_of_le h
  rw [State.committed_append, State.commitClaimOf, none]
  exact s.queuedRefusal_match tag _

theorem State.lockArgument_of_lock {l : LockNo} (h : s.hp.requestB = octetOfFin l) : s.lockArgument = some l := by
  rw [State.lockArgument, h]; exact finOfOctet_octetOfFin (by decide) l

theorem State.barrierArgument_of_barrier {b : BarrierNo} (h : s.hp.requestB = octetOfFin b) :
    s.barrierArgument = some b := by
  rw [State.barrierArgument, h]; exact finOfOctet_octetOfFin (by decide) b

theorem State.stationArgument_of_station {t : Station} (h : s.hp.requestB = octetOfFin t) :
    s.stationArgument = some t := by
  rw [State.stationArgument, h]; exact finOfOctet_octetOfFin (by decide) t

theorem State.commitClaimOf_of_lock (body : LockNo → RequestBody) {l : LockNo} (h : s.hp.requestB = octetOfFin l) :
    s.commitClaimOf body tag =
      s.committed (s.commonChecks tag ++ [((s.claim l).phase != .none, .already), s.fullCheck])
        ((s.setClaim l ⟨.claimQueued, tag, (s.claim l).withdrawals⟩).queuedRequest (body l) tag) := by
  rw [State.committed_append, State.commitClaimOf, State.lockArgument_of_lock h]
  refine (s.queuedRefusal_match tag _).trans ?_
  simp [State.queueUnlessFull_eq]

theorem State.commitRelease_of_lt (h : 31 < s.hp.requestB.toNat) :
    s.commitRelease tag = s.committed (s.commonChecks tag ++ [(true, .range)]) s := by
  have none : s.lockArgument = none := finOfOctet_of_le h
  rw [State.committed_append, State.commitRelease, none]
  exact s.queuedRefusal_match tag _

theorem State.commitRelease_of_lock {l : LockNo} (h : s.hp.requestB = octetOfFin l) :
    s.commitRelease tag =
      s.committed (s.commonChecks tag ++ [((s.claim l).phase != .held, .notHolder), s.fullCheck])
        ((s.setClaim l { s.claim l with phase := .releaseQueued }).queuedRequest (.release l) tag) := by
  rw [State.committed_append, State.commitRelease, State.lockArgument_of_lock h]
  refine (s.queuedRefusal_match tag _).trans ?_
  simp [State.queueUnlessFull_eq]

theorem State.commitArrive_of_lt (h : 7 < s.hp.requestB.toNat) :
    s.commitArrive tag = s.committed (s.commonChecks tag ++ [(true, .range)]) s := by
  have none : s.barrierArgument = none := finOfOctet_of_le h
  rw [State.committed_append, State.commitArrive, none]
  exact s.queuedRefusal_match tag _

theorem State.commitArrive_of_barrier {b : BarrierNo} (h : s.hp.requestB = octetOfFin b) :
    s.commitArrive tag = s.committed
      (s.commonChecks tag ++
        [(decide (s.hp.requestC.toNat < 2) || decide (16 < s.hp.requestC.toNat), .range),
          ((s.arrival b).phase != .none, .already), s.fullCheck])
      ((s.setArrival b ⟨.arriveQueued, tag, none⟩).queuedRequest (.arrive b s.hp.requestC.toNat) tag) := by
  rw [State.committed_append, State.commitArrive, State.barrierArgument_of_barrier h]
  refine (s.queuedRefusal_match tag _).trans ?_
  congr 1
  by_cases party : 2 ≤ s.hp.requestC.toNat ∧ s.hp.requestC.toNat ≤ 16
  · have inRange : (decide (s.hp.requestC.toNat < 2) || decide (16 < s.hp.requestC.toNat)) = false := by
      rw [Bool.or_eq_false_iff, decide_eq_false_iff_not, decide_eq_false_iff_not]; omega
    simp only [State.partyArgument, if_pos party, State.committed_cons, inRange]
    simp [State.queueUnlessFull_eq]
  · have outOfRange : (decide (s.hp.requestC.toNat < 2) || decide (16 < s.hp.requestC.toNat)) = true := by
      rw [Bool.or_eq_true, decide_eq_true_eq, decide_eq_true_eq]; omega
    simp only [State.partyArgument, if_neg party, State.committed_cons, outOfRange, if_true]

theorem State.commitPublish_eq : s.commitPublish tag = s.committed (s.commonChecks tag ++ [s.fullCheck])
    (s.queuedRequest (.publish s.publishArgument) tag) := by
  rw [State.committed_append, State.commitPublish, State.queueUnlessFull_eq]
  exact s.queuedRefusal_match tag _

theorem State.commitPost_of_lt (h : 15 < s.hp.requestB.toNat) :
    s.commitPost tag = s.committed (s.commonChecks tag ++ [(true, .range)]) s := by
  have none : s.stationArgument = none := finOfOctet_of_le h
  rw [State.committed_append, State.commitPost, none]
  exact s.queuedRefusal_match tag _

theorem State.commitPost_of_station {t : Station} (h : s.hp.requestB = octetOfFin t) :
    s.commitPost tag = s.committed (s.commonChecks tag ++ [s.fullCheck])
      (s.queuedRequest (.post t s.hp.requestC) tag) := by
  rw [State.committed_append, State.commitPost, State.stationArgument_of_station h]
  exact (s.queuedRefusal_match tag _).trans (congrArg _ (s.queueUnlessFull_eq _ tag id))

end

/-! ## A request that a description finds, taken out of the queue (R14, R33) -/

section
variable {which : Request → Bool} {r : Request}

/-- Where tags differ, the first request of a description is taken out by its tag. -/
theorem eraseP_tag_eq_eraseP : ∀ {q : List Request}, (q.map (·.tag)).Nodup → q.find? which = some r →
    q.eraseP (fun x => x.tag == r.tag) = q.eraseP which
  | [], _, found => by simp at found
  | x :: rest, nodup, found => by
    obtain ⟨fresh, nodup⟩ := List.nodup_cons.mp nodup
    cases first : which x with
    | true =>
      obtain rfl : x = r := by simpa [first] using found
      simp [first]
    | false =>
      have found : rest.find? which = some r := by simpa [first] using found
      have other : x.tag ≠ r.tag := fun e =>
        fresh (List.mem_map.mpr ⟨r, List.mem_of_find?_eq_some found, e.symm⟩)
      simp [first, other, eraseP_tag_eq_eraseP nodup found]

theorem State.removeFound_eq {s : State} (lawful : s.requestsLawful = true) (which : Request → Bool) :
    s.removeFound (s.hp.queue.find? which) = s.withoutRequest which := by
  cases found : s.hp.queue.find? which with
  | none =>
    have absent : s.hp.queue.eraseP which = s.hp.queue :=
      List.eraseP_of_forall_not fun x hx => List.find?_eq_none.mp found x hx
    simp [State.removeFound, State.withoutRequest, found, absent]
  | some r =>
    have erased := eraseP_tag_eq_eraseP (State.tags_nodup lawful) found
    by_cases counted : s.ss.counted = some (.request r.tag) <;>
      simp [State.removeFound, State.removeRequest, State.withoutRequest, found, counted, erased, State.onHp,
        State.uncount, State.onSs]

/-- Behind the head of a lawful queue no request is in attempt (R159). -/
theorem State.unattempted_tail {s : State} (lawful : s.requestsLawful = true) :
    ∀ r ∈ s.hp.queue.drop 1, r.inAttempt = false := by
  simp only [State.requestsLawful, Bool.and_eq_true] at lawful
  obtain ⟨⟨_, unmarked⟩, _⟩ := lawful
  simpa using unmarked

/-- Where the head alone can be in attempt, the first request of a description is in attempt where any is. -/
theorem State.requestAttempted_find? {s : State} (lawful : s.requestsLawful = true) (which : Request → Bool) :
    requestAttempted (s.hp.queue.find? which) = s.hp.queue.any (fun x => which x && x.inAttempt) := by
  have tail := State.unattempted_tail lawful
  cases queue : s.hp.queue with
  | nil => rfl
  | cons x rest =>
    rw [queue, List.drop_one, List.tail_cons] at tail
    have none : rest.any (fun x => which x && x.inAttempt) = false := by
      simp only [List.any_eq_false, Bool.and_eq_true, not_and]
      intro y hy _; simp [tail y hy]
    cases first : which x with
    | true => simp [requestAttempted, first, none]
    | false =>
      cases found : rest.find? which with
      | none => simp [requestAttempted, first, none, found]
      | some y => simp [requestAttempted, first, none, found, tail y (List.mem_of_find?_eq_some found)]

end

section
variable {s : State} (tag : Octet)

theorem State.withdrawLocally_eq (lawful : s.requestsLawful = true) (l : LockNo) :
    s.withdrawLocally l = State.answer .accepted (octetOf (s.hp.queue.eraseP (s.follows l)).length) 0 0 0
      (((s.withoutRequest (s.follows l)).setClaim l ⟨.none, 0, (s.claim l).withdrawals⟩).indicate
        (.withdrawn (s.claim l).tag l)) := by
  have removed : s.removeFound (s.claimRequest l) = s.withoutRequest (s.follows l) :=
    State.removeFound_eq lawful (s.follows l)
  rw [State.withdrawLocally, removed, State.acceptCounted, State.indicate_hp_queue]
  rfl

theorem State.abandonLocally_eq (lawful : s.requestsLawful = true) (b : BarrierNo) :
    s.abandonLocally b = State.answer .accepted (octetOf (s.hp.queue.eraseP (·.arrives b)).length) 0 0 0
      (((s.withoutRequest (·.arrives b)).setArrival b ⟨.none, 0, none⟩).indicate
        (.abandoned (s.arrival b).tag b 0 .localOnly)) := by
  have removed : s.removeFound (s.arriveRequest b) = s.withoutRequest (·.arrives b) :=
    State.removeFound_eq lawful (·.arrives b)
  rw [State.abandonLocally, removed, State.acceptCounted, State.indicate_hp_queue]
  rfl

/-- The commit of WITHDRAW of a lock, by the phase of the claim record and the request that it follows. -/
theorem State.commitWithdraw_of_lock {l : LockNo} (h : s.hp.requestB = octetOfFin l) : s.commitWithdraw tag =
    s.committed (s.commonChecks tag ++
        [((s.claim l).phase == .none || (s.claim l).phase == .held || (s.claim l).phase == .releaseQueued, .notWaiting)])
      (if (s.claim l).phase = .claimQueued then
        if requestAttempted (s.claimRequest l) then s.committed [s.fullCheck]
          ((s.setClaim l { s.claim l with withdrawals := (s.claim l).withdrawals + 1 }).queuedRequest (.withdraw l) tag)
        else s.withdrawLocally l
      else s.committed [s.fullCheck]
        ((s.setClaim l ⟨.withdrawQueued, (s.claim l).tag, (s.claim l).withdrawals + 1⟩).queuedRequest
          (.withdraw l) tag)) := by
  rw [State.committed_append, State.commitWithdraw, State.lockArgument_of_lock h]
  refine (s.queuedRefusal_match tag _).trans ?_
  cases phase : (s.claim l).phase <;> simp [phase, State.queueUnlessFull_eq]

/-- The commit of ABANDON of a barrier, by the phase of the arrival record and its ARRIVE. -/
theorem State.commitAbandon_of_barrier {b : BarrierNo} (h : s.hp.requestB = octetOfFin b) : s.commitAbandon tag =
    s.committed (s.commonChecks tag ++
        [((s.arrival b).phase == .none || (s.arrival b).phase == .abandonQueued, .notArrived)])
      (if (s.arrival b).phase = .arriveQueued then
        if requestAttempted (s.arriveRequest b) then s.committed [s.fullCheck]
          ((s.setArrival b ⟨.abandonQueued, (s.arrival b).tag, none⟩).queuedRequest (.abandon b) tag)
        else s.abandonLocally b
      else s.committed [s.fullCheck]
        ((s.setArrival b ⟨.abandonQueued, (s.arrival b).tag, (s.arrival b).generation⟩).queuedRequest
          (.abandon b) tag)) := by
  rw [State.committed_append, State.commitAbandon, State.barrierArgument_of_barrier h]
  refine (s.queuedRefusal_match tag _).trans ?_
  cases phase : (s.arrival b).phase <;> simp [phase, State.queueUnlessFull_eq]

theorem State.commitWithdraw_of_lt (h : 31 < s.hp.requestB.toNat) :
    s.commitWithdraw tag = s.committed (s.commonChecks tag ++ [(true, .range)]) s := by
  have none : s.lockArgument = none := finOfOctet_of_le h
  rw [State.committed_append, State.commitWithdraw, none]
  exact s.queuedRefusal_match tag _

theorem State.commitAbandon_of_lt (h : 7 < s.hp.requestB.toNat) :
    s.commitAbandon tag = s.committed (s.commonChecks tag ++ [(true, .range)]) s := by
  have none : s.barrierArgument = none := finOfOctet_of_le h
  rw [State.committed_append, State.commitAbandon, none]
  exact s.queuedRefusal_match tag _

end

/-! ## A LEAVE that empties the queue (R162) -/

/-- The state with another request queue and another Send Selector. -/
def State.withQueue (q : List Request) (ss : SendSelector) (s : State) : State :=
  { s with ss := ss, hp := { s.hp with queue := q } }

/-- A request answered CANCELLED, and its local record returned. -/
def State.tellCancelled (r : Request) (s : State) : State :=
  (s.indicate (.cancelled r.tag r.body.kind)).returnRecord r.body

/-- The Send Selector once a request of the list has left the queue (R120). -/
def SendSelector.without (rs : List Request) (x : SendSelector) : SendSelector :=
  if rs.any (fun r => x.counted == some (.request r.tag)) then { x with counted := none, counter := 0 } else x

section
variable (q : List Request) (ss : SendSelector) (s : State) (r : Request)

theorem State.indicate_withQueue (x : Indication) : (s.withQueue q ss).indicate x = (s.indicate x).withQueue q ss := by
  by_cases room : s.hp.indications.length < Config.indicationCapacity <;>
    simp [State.withQueue, State.indicate, State.onHp, HostPort.indicate, room]

theorem State.returnRecord_withQueue (body : RequestBody) :
    (s.withQueue q ss).returnRecord body = (s.returnRecord body).withQueue q ss := by
  have claim (l : LockNo) : (s.withQueue q ss).claim l = s.claim l := rfl
  have arrival (b : BarrierNo) : (s.withQueue q ss).arrival b = s.arrival b := rfl
  cases body with
  | claim l => rfl
  | tryClaim l => rfl
  | release l => rw [State.returnRecord_release, State.returnRecord_release, claim]; split <;> rfl
  | withdraw l => rw [State.returnRecord_withdraw, State.returnRecord_withdraw, claim]; split <;> rfl
  | arrive b n => rw [State.returnRecord_arrive, State.returnRecord_arrive, arrival]; split <;> rfl
  | abandon b => rw [State.returnRecord_abandon, State.returnRecord_abandon, arrival]; split <;> rfl
  | join => rfl
  | leave => rfl
  | publish v => rfl
  | post t k => rfl

theorem State.tellCancelled_withQueue :
    (s.withQueue q ss).tellCancelled r = (s.tellCancelled r).withQueue q ss := by
  rw [State.tellCancelled, State.indicate_withQueue, State.returnRecord_withQueue]; rfl

theorem State.foldl_tellCancelled_withQueue (rs : List Request) :
    rs.foldl (fun u r => u.tellCancelled r) (s.withQueue q ss) =
      (rs.foldl (fun u r => u.tellCancelled r) s).withQueue q ss := by
  induction rs generalizing s with
  | nil => rfl
  | cons r rs ih => rw [List.foldl_cons, List.foldl_cons, State.tellCancelled_withQueue, ih]

end

/-- The removal of the head request. -/
theorem State.removeRequest_of_head {s : State} {r : Request} {rest : List Request} (queue : s.hp.queue = r :: rest) :
    s.removeRequest r.tag = s.withQueue rest (s.ss.without [r]) := by
  by_cases counted : s.ss.counted = some (.request r.tag) <;>
    simp [State.removeRequest, State.withQueue, SendSelector.without, counted, queue, State.onHp, State.uncount,
      State.onSs]

theorem SendSelector.without_without (x : SendSelector) (r : Request) (rs : List Request) :
    (x.without [r]).without rs = x.without (r :: rs) := by
  by_cases counted : x.counted = some (.request r.tag) <;> simp [SendSelector.without, counted]

/-- Every queued request is cancelled, oldest first, and the queue is left empty. -/
theorem State.foldl_cancelRequest (rs : List Request) : ∀ s : State, s.hp.queue = rs →
    rs.foldl (fun t r => t.cancelRequest r) s =
      (rs.foldl (fun u r => u.tellCancelled r) s).withQueue [] (s.ss.without rs) := by
  induction rs with
  | nil =>
    intro s queue
    calc s = s.withQueue s.hp.queue s.ss := rfl
      _ = s.withQueue [] (s.ss.without []) := by rw [queue]; rfl
  | cons r rest ih =>
    intro s queue
    have head : s.cancelRequest r = (s.tellCancelled r).withQueue rest (s.ss.without [r]) := by
      rw [State.cancelRequest, State.removeRequest_of_head queue]
      exact State.tellCancelled_withQueue rest _ s r
    rw [List.foldl_cons, List.foldl_cons, ← SendSelector.without_without, head, ih _ rfl,
      State.foldl_tellCancelled_withQueue]
    rfl

theorem State.cancelAll_acceptQueued (s : State) (tag : Octet) :
    s.cancelAll.acceptQueued .leave tag = s.leaveAlone tag := by
  rw [State.acceptQueued_eq, State.cancelAll, State.foldl_cancelRequest _ s rfl]
  rfl

theorem State.commitLeave_eq (s : State) (tag : Octet) : s.commitLeave tag = s.committed (s.commonChecks tag)
    (if s.station = .inStep then s.committed [s.fullCheck] (s.queuedRequest .leave tag) else s.leaveAlone tag) := by
  rw [State.commitLeave, State.queueUnlessFull_eq, State.cancelAll_acceptQueued]
  exact s.queuedRefusal_match tag _

/-- Outside the states that take a LEAVE the common checks fail. -/
theorem State.committed_commonChecks_congr {s : State} {tag : Octet} {x y : State}
    (h : s.station = .joining ∨ s.station = .inStep ∨ s.station = .diverged → x = y) :
    s.committed (s.commonChecks tag) x = s.committed (s.commonChecks tag) y := by
  cases station : s.station with
  | joining => rw [h (.inl station)]
  | inStep => rw [h (.inr (.inl station))]
  | diverged => rw [h (.inr (.inr station))]
  | _ => simp [State.commonChecks, station]

/-! ## The statements -/

/-- Settles O10: the two commits as their ordered lists. -/
theorem commitUnknownAndJoinChecked : Obligations.CommitUnknownAndJoinChecked := by
  refine ⟨fun tag s released unlisted => ?_, fun tag s commits => ?_⟩
  · have runs : s.commitAs none State.commitUnknown tag = s.commitUnknown := by
      simp [State.commitAs, State.unlessReset_of_false released, RequestKind.ofCode_of_unlisted unlisted]
    exact congrArg _ (runs.trans State.commitUnknown_eq)
  · exact congrArg _ ((State.commitAs_of_commits commits _ tag).trans (State.commitJoin_eq tag))

/-- Settles O11: IN STEP the LEAVE is a queued kind; in JOINING and DIVERGED it empties the queue first. -/
theorem commitLeaveChecked : Obligations.CommitLeaveChecked := by
  intro tag s commits
  have runs : exec (.commitLeave tag) s = .next (s.commitLeave tag) :=
    congrArg _ (State.commitAs_of_commits commits _ tag)
  rw [runs, State.commitLeave_eq]
  refine ⟨fun notJoining notDiverged => ?_, fun station _ => ?_⟩
  · rw [State.committed_append]
    exact congrArg _ (State.committed_commonChecks_congr fun admits => if_pos (by tauto))
  · have notInStep : s.station ≠ .inStep := by rcases station with e | e <;> rw [e] <;> decide
    rw [if_neg notInStep]

/-- Settles O12: CLAIM, TRY CLAIM and RELEASE as their ordered lists. -/
theorem commitLockChecked : Obligations.CommitLockChecked := by
  refine ⟨fun tag s => ⟨fun above => ⟨fun commits => ?_, fun commits => ?_⟩,
    fun l operand => ⟨fun commits => ?_, fun commits => ?_⟩⟩, fun tag s commits => ⟨fun above => ?_, fun l operand => ?_⟩⟩
  · exact congrArg _ ((State.commitAs_of_commits commits _ tag).trans (State.commitClaimOf_of_lt tag _ above))
  · exact congrArg _ ((State.commitAs_of_commits commits _ tag).trans (State.commitClaimOf_of_lt tag _ above))
  · exact congrArg _ ((State.commitAs_of_commits commits _ tag).trans (State.commitClaimOf_of_lock tag _ operand))
  · exact congrArg _ ((State.commitAs_of_commits commits _ tag).trans (State.commitClaimOf_of_lock tag _ operand))
  · exact congrArg _ ((State.commitAs_of_commits commits _ tag).trans (State.commitRelease_of_lt tag above))
  · exact congrArg _ ((State.commitAs_of_commits commits _ tag).trans (State.commitRelease_of_lock tag operand))

/-- Settles O13: the claim request is the first that the record follows, which is in attempt where any such one is. -/
theorem commitWithdrawChecked : Obligations.CommitWithdrawChecked := by
  intro tag s commits lawful
  have runs : exec (.commitWithdraw tag) s = .next (s.commitWithdraw tag) :=
    congrArg _ (State.commitAs_of_commits commits _ tag)
  rw [runs]
  refine ⟨fun above => congrArg _ (State.commitWithdraw_of_lt tag above), fun l operand => ?_⟩
  have attempted : requestAttempted (s.claimRequest l) = s.hp.queue.any (fun r => s.follows l r && r.inAttempt) :=
    State.requestAttempted_find? lawful (s.follows l)
  dsimp only
  rw [State.commitWithdraw_of_lock tag operand, attempted]
  refine ⟨fun queued waiting => ?_, fun queued inAttempt => ?_, fun other => ?_⟩
  · rw [if_pos queued, waiting, State.withdrawLocally_eq lawful]; rfl
  · rw [if_pos queued, inAttempt, if_pos rfl, State.committed_append _ _ [s.fullCheck]]
  · rw [if_neg other, State.committed_append _ _ [s.fullCheck]]

/-- Settles O14: ARRIVE as its ordered list. -/
theorem commitArriveChecked : Obligations.CommitArriveChecked := by
  intro tag s commits
  have runs : exec (.commitArrive tag) s = .next (s.commitArrive tag) :=
    congrArg _ (State.commitAs_of_commits commits _ tag)
  rw [runs]
  exact ⟨fun above => congrArg _ (State.commitArrive_of_lt tag above), fun b operand =>
    congrArg _ (State.commitArrive_of_barrier tag operand)⟩

/-- Settles O15: the ARRIVE is the first for its barrier, which is in attempt where any such one is. -/
theorem commitAbandonChecked : Obligations.CommitAbandonChecked := by
  intro tag s commits lawful
  have runs : exec (.commitAbandon tag) s = .next (s.commitAbandon tag) :=
    congrArg _ (State.commitAs_of_commits commits _ tag)
  rw [runs]
  refine ⟨fun above => congrArg _ (State.commitAbandon_of_lt tag above), fun b operand => ?_⟩
  have attempted : requestAttempted (s.arriveRequest b) = s.hp.queue.any (fun r => r.arrives b && r.inAttempt) :=
    State.requestAttempted_find? lawful (·.arrives b)
  dsimp only
  rw [State.commitAbandon_of_barrier tag operand, attempted]
  refine ⟨fun queued waiting => ?_, fun queued inAttempt => ?_, fun other => ?_⟩
  · rw [if_pos queued, waiting, State.abandonLocally_eq lawful]; rfl
  · rw [if_pos queued, inAttempt, if_pos rfl, State.committed_append _ _ [s.fullCheck]]
  · rw [if_neg other, State.committed_append _ _ [s.fullCheck]]

/-- Settles O16: PUBLISH and POST as their ordered lists. -/
theorem commitPublishPostChecked : Obligations.CommitPublishPostChecked := by
  refine fun tag s => ⟨fun commits => ?_, fun commits => ⟨fun above => ?_, fun target operand => ?_⟩⟩
  · exact congrArg _ ((State.commitAs_of_commits commits _ tag).trans (State.commitPublish_eq tag))
  · exact congrArg _ ((State.commitAs_of_commits commits _ tag).trans (State.commitPost_of_lt tag above))
  · exact congrArg _ ((State.commitAs_of_commits commits _ tag).trans (State.commitPost_of_station tag operand))

end Sys2Proof.Machine
end

section
/-!
SUPPORT. The timers and the events of the Line Engine that reach no frame (R60, R99, R100, R102, R106, R110, R123, R125,
R134), and the ends of a frame (R76 to R78, R100); then the statements.
-/

namespace Sys2Proof.Machine

/-! ## Timers (Table 7-1) -/

theorem Timer.runs_running (n : Nat) : (Timer.running n).runs = true := rfl

theorem State.presencePending_iff (s : State) :
    s.presencePending = true ↔ (s.station = .joining ∨ s.station = .inStep) ∧ s.mc.presence = .expired := by
  simp [State.presencePending]

theorem State.evictPending_iff (s : State) (t : Station) :
    s.evictPending t = true ↔ s.station = .inStep ∧ s.mc.silence[t] = .expired := by
  simp [State.evictPending]

/-- Settles O20: each expiry of a running timer sets one field. -/
theorem ownTimersExpire : Obligations.OwnTimersExpire := by
  refine ⟨fun s released => ⟨fun n watch running => ?_, fun other => ?_⟩,
    fun s n released => ⟨fun running => ⟨_, rfl, ?_, ?_⟩, fun peer running => ⟨_, rfl, ?_, ?_⟩⟩⟩
  · refine congrArg _ ((State.unlessReset_of_false released _).trans ?_)
    rw [State.endQuietWatch, if_pos ⟨watch, by rw [running]; rfl⟩]
    rfl
  · refine congrArg _ ((State.unlessReset_of_false released _).trans ?_)
    rw [State.endQuietWatch, if_neg fun both => other both.1]
  · rw [State.unlessReset_of_false released, State.expirePresence, running, if_pos (Timer.runs_running n)]
    rfl
  · rw [State.unlessReset_of_false released, State.expirePresence, running, if_pos (Timer.runs_running n),
      State.presencePending_iff]
    exact and_iff_left rfl
  · rw [State.unlessReset_of_false released, State.expireSilence, running, if_pos (Timer.runs_running n)]
    rfl
  · rw [State.unlessReset_of_false released, State.expireSilence, running, if_pos (Timer.runs_running n),
      State.evictPending_iff]
    exact and_iff_left (by simp [State.setSilence])

/-! ## The line without a frame -/

/-- Settles O22: each event is one branch of its definition. -/
theorem idleLineEvents : Obligations.IdleLineEvents := by
  refine ⟨fun s released idle => ⟨?_, fun low => ?_⟩, fun s released =>
    ⟨fun idle high notHalted => ?_, fun idle blocked => ?_, fun busy => ?_, fun receiving => ?_⟩⟩
  · refine congrArg _ ((State.unlessReset_of_false released _).trans ?_)
    rw [State.reachClearGap, if_pos idle]
    rfl
  · refine congrArg _ ((State.unlessReset_of_false released _).trans ?_)
    have closed : s.lineOpen = false := decide_eq_false (Nat.not_le.mpr low)
    rw [State.discardDominant, if_pos ⟨idle, by rw [closed]; rfl⟩]
    rfl
  · refine congrArg _ ((State.unlessReset_of_false released _).trans ?_)
    rcases s.openFrame_cases with ⟨busy, -⟩ | ⟨-, -, -, opened⟩ | ⟨-, blocked, -⟩
    · exact absurd idle busy
    · exact opened
    · exact absurd blocked (not_or.mpr ⟨Nat.not_lt.mpr high, notHalted⟩)
  · refine congrArg _ ((State.unlessReset_of_false released _).trans ?_)
    rcases s.openFrame_cases with ⟨busy, -⟩ | ⟨-, high, notHalted, -⟩ | ⟨-, -, closed⟩
    · exact absurd idle busy
    · exact absurd blocked (not_or.mpr ⟨Nat.not_lt.mpr high, notHalted⟩)
    · exact closed
  · refine congrArg _ ((State.unlessReset_of_false released _).trans ?_)
    rcases s.openFrame_cases with ⟨-, same⟩ | ⟨idle, -⟩ | ⟨idle, -⟩
    · exact same
    · exact absurd idle busy
    · exact absurd idle busy
  · refine congrArg _ ((State.unlessReset_of_false released _).trans ?_)
    rw [State.stallFrame, if_pos receiving]
    rfl

/-! ## The end of a frame (R76 to R78) -/

/-- A frame is behind where its distance is 32768 or more (R82). -/
theorem frameBehind_iff (frame own : Word16) : frameBehind frame own = true ↔ 32768 ≤ (frame - own).toNat :=
  decide_eq_true_iff

/-- The decision at a station without a stake (R77). -/
theorem State.decideObjection_of_no_stake {s : State} (c : Classification)
    (h : ¬ (s.station = .joining ∨ s.station = .inStep ∨ s.station = .diverged)) : s.decideObjection c = .none := by
  have none : s.station.hasStake = false := by
    cases station : s.station <;> simp_all [StationState.hasStake]
  simp [State.decideObjection, none]

theorem StationState.hasStake_of {st : StationState} (h : st = .joining ∨ st = .inStep ∨ st = .diverged) :
    st.hasStake = true := by
  rcases h with rfl | rfl | rfl <;> rfl

/-- Settles O32: the sender holds its frame as built; a receiver's decision is read off `State.decideObjection`. -/
theorem frameEndDecides : Obligations.FrameEndDecides := by
  intro s characters released
  refine ⟨fun a attempt sending => ?_, fun whole receiving complete => ?_⟩
  · refine congrArg _ ((State.unlessReset_of_false released _).trans ?_)
    have sends : s.winHead.le.line = .sending := by
      rw [s.winHead_sending]; rcases sending with e | e <;> rw [e] <;> rfl
    rw [State.finishFrame, if_pos sends, attempt]
    rcases s.winHead_cases with ⟨-, won⟩ | ⟨-, same⟩
    · simp only [won]; rfl
    · simp only [same]; rfl
  · have notSending : s.winHead.le.line ≠ .sending := by
      rw [ne_eq, s.winHead_sending, receiving]; decide
    have runs : exec (.frameEnd characters) s = .next (s.endHeardFrame whole) := by
      refine congrArg _ ((State.unlessReset_of_false released _).trans ?_)
      rw [State.finishFrame, if_neg notSending, if_pos receiving, complete]
    have held {o : Objection} (decided : s.decideObjection (classify whole) = o) : s.endHeardFrame whole =
        { s with
          le := { s.le with line := .slot, rxBits := [] }
          au := { s.au with partialFrame := whole, heard := some ⟨classify whole, o, false⟩ } } := by
      rw [← decided]; rfl
    dsimp only
    rw [runs]
    refine ⟨fun noStake => ?_, fun stake bad => ?_, fun f stake good => ⟨fun objects => ?_, fun accepts => ?_⟩⟩
    · exact congrArg _ (held (State.decideObjection_of_no_stake _ noStake))
    · refine congrArg _ (held ?_)
      rcases bad with e | e <;> simp only [State.decideObjection, if_pos (StationState.hasStake_of stake), e]
    · refine congrArg _ (held ?_)
      simp only [State.decideObjection, if_pos (StationState.hasStake_of stake), good]
      exact if_pos (by rwa [frameBehind_iff])
    · refine congrArg _ (held ?_)
      simp only [State.decideObjection, if_pos (StationState.hasStake_of stake), good]
      exact if_neg (by rwa [frameBehind_iff])

end Sys2Proof.Machine
end

section
/-!
SUPPORT. The ends of an attempt (R118, R121, R122): what each leaves of the state, that none depends on the Line Engine, and
what each does to a request in hand and to a duty. Then the statements on a failed attempt, a lost arbitration, a collision,
a line-held condition, the objections and the halting faults.
-/

namespace Sys2Proof.Machine

/-! ## What changes the Send Selector and the Host Port alone -/

/-- What a commit and the end of an attempt leave: every block but the Send Selector and the Host Port. -/
def State.SameBesidePort (s t : State) : Prop := t = { s with ss := t.ss, hp := t.hp }

theorem State.SameBesidePort.refl (s : State) : s.SameBesidePort s := rfl

theorem State.SameBesidePort.trans {s t u : State} (h : s.SameBesidePort t) (k : t.SameBesidePort u) :
    s.SameBesidePort u := by
  unfold State.SameBesidePort at *
  rw [k, h]

section
variable {s t : State} (h : s.SameBesidePort t)
include h
theorem State.SameBesidePort.le : t.le = s.le := congrArg (·.le) h
theorem State.SameBesidePort.au : t.au = s.au := congrArg (·.au) h
theorem State.SameBesidePort.tu : t.tu = s.tu := congrArg (·.tu) h
theorem State.SameBesidePort.mc : t.mc = s.mc := congrArg (·.mc) h
theorem State.SameBesidePort.straps : t.straps = s.straps := congrArg (·.straps) h
end

section
variable (s : State)

theorem State.sameBesidePort_onSs (f : SendSelector → SendSelector) : s.SameBesidePort (s.onSs f) := rfl
theorem State.sameBesidePort_dropAttempt : s.SameBesidePort s.dropAttempt := rfl
theorem State.sameBesidePort_uncount : s.SameBesidePort s.uncount := rfl
theorem State.sameBesidePort_indicate (r : Indication) : s.SameBesidePort (s.indicate r) := rfl

theorem State.sameBesidePort_removeRequest (tag : Octet) : s.SameBesidePort (s.removeRequest tag) := by
  unfold State.removeRequest; split <;> rfl

theorem State.sameBesidePort_returnRecord (body : RequestBody) : s.SameBesidePort (s.returnRecord body) := by
  unfold State.SameBesidePort; rw [s.returnRecord_frame body]

theorem State.sameBesidePort_cancelRequest (r : Request) : s.SameBesidePort (s.cancelRequest r) :=
  ((s.sameBesidePort_removeRequest r.tag).trans (State.sameBesidePort_indicate _ _)).trans
    (State.sameBesidePort_returnRecord _ _)

theorem State.sameBesidePort_faultRequest (r : Request) : s.SameBesidePort (s.faultRequest r) :=
  ((s.sameBesidePort_removeRequest r.tag).trans (State.sameBesidePort_indicate _ _)).trans
    (State.sameBesidePort_returnRecord _ _)

theorem State.sameBesidePort_cancelMarked : s.SameBesidePort s.cancelMarked := by
  unfold State.cancelMarked
  split
  · split
    · exact s.sameBesidePort_cancelRequest _
    · exact .refl s
  · exact .refl s

theorem State.sameBesidePort_endItem : s.SameBesidePort s.endItem := by
  unfold State.endItem
  split
  · exact (s.sameBesidePort_faultRequest _).trans (State.sameBesidePort_uncount _)
  · exact s.sameBesidePort_uncount

theorem State.sameBesidePort_loseAttempt : s.SameBesidePort s.loseAttempt := by
  unfold State.loseAttempt
  split
  · exact s.sameBesidePort_dropAttempt
  · exact s.sameBesidePort_cancelMarked.trans (State.sameBesidePort_dropAttempt _)

/-- A failed attempt sets the yield flag, and beside that changes the Send Selector and the Host Port alone. -/
theorem State.sameBesidePort_failAttempt : s.setYield.SameBesidePort s.failAttempt := by
  unfold State.failAttempt
  split
  · exact s.setYield.sameBesidePort_dropAttempt
  · have counted := s.setYield.sameBesidePort_onSs (fun x => { x with counter := x.counter + 1 })
    dsimp only
    split
    · exact (counted.trans (State.sameBesidePort_cancelMarked _)).trans (State.sameBesidePort_dropAttempt _)
    · split
      · exact (counted.trans (State.sameBesidePort_endItem _)).trans (State.sameBesidePort_dropAttempt _)
      · exact counted.trans (State.sameBesidePort_dropAttempt _)

end

/-! ## The ends of an attempt do not depend on the line's blocks -/

/-- The state with another Line Engine and another Acceptance Unit. -/
def State.withLine (e : LineEngine) (a : AcceptanceUnit) (s : State) : State := { s with le := e, au := a }

/-- The failure counted, before the item is dealt with. -/
def State.failureCounted (s : State) : State := s.setYield.onSs (fun x => { x with counter := x.counter + 1 })

/-- A failed attempt, by the item, the mark and the count. -/
theorem State.failAttempt_eq (s : State) : s.failAttempt =
    match s.attemptItem with
    | none => s.setYield.dropAttempt
    | some _ =>
      if s.attemptMarked then s.failureCounted.cancelMarked.dropAttempt
      else if 8 ≤ s.ss.counter + 1 then s.failureCounted.endItem.dropAttempt
      else s.failureCounted.dropAttempt := by
  unfold State.failAttempt
  rfl

section
variable (e : LineEngine) (a : AcceptanceUnit) (s : State)

theorem State.indicate_withLine (r : Indication) : (s.withLine e a).indicate r = (s.indicate r).withLine e a := rfl

theorem State.removeRequest_withLine (tag : Octet) :
    (s.withLine e a).removeRequest tag = (s.removeRequest tag).withLine e a := by
  have ss : (s.withLine e a).ss = s.ss := rfl
  unfold State.removeRequest
  rw [ss]
  dsimp only
  split <;> rfl

theorem State.returnRecord_withLine (body : RequestBody) :
    (s.withLine e a).returnRecord body = (s.returnRecord body).withLine e a := by
  have claim (l : LockNo) : (s.withLine e a).claim l = s.claim l := rfl
  have arrival (b : BarrierNo) : (s.withLine e a).arrival b = s.arrival b := rfl
  cases body with
  | release l => rw [State.returnRecord_release, State.returnRecord_release, claim]; split <;> rfl
  | withdraw l => rw [State.returnRecord_withdraw, State.returnRecord_withdraw, claim]; split <;> rfl
  | arrive b n => rw [State.returnRecord_arrive, State.returnRecord_arrive, arrival]; split <;> rfl
  | abandon b => rw [State.returnRecord_abandon, State.returnRecord_abandon, arrival]; split <;> rfl
  | _ => rfl

theorem State.cancelRequest_withLine (r : Request) :
    (s.withLine e a).cancelRequest r = (s.cancelRequest r).withLine e a := by
  unfold State.cancelRequest
  rw [State.removeRequest_withLine, State.indicate_withLine, State.returnRecord_withLine]

theorem State.faultRequest_withLine (r : Request) :
    (s.withLine e a).faultRequest r = (s.faultRequest r).withLine e a := by
  unfold State.faultRequest
  rw [State.removeRequest_withLine, State.indicate_withLine, State.returnRecord_withLine]

theorem State.cancelMarked_withLine : (s.withLine e a).cancelMarked = s.cancelMarked.withLine e a := by
  have same : (s.withLine e a).requestInAttempt = s.requestInAttempt := rfl
  unfold State.cancelMarked
  rw [same]
  split
  · split
    · exact State.cancelRequest_withLine e a s _
    · rfl
  · rfl

theorem State.endItem_withLine : (s.withLine e a).endItem = s.endItem.withLine e a := by
  have same : (s.withLine e a).requestInAttempt = s.requestInAttempt := rfl
  unfold State.endItem
  rw [same]
  split
  · rw [State.faultRequest_withLine]; rfl
  · rfl

/-- A failed attempt sets the yield flag of whatever Line Engine it meets. -/
theorem State.failAttempt_withLine :
    (s.withLine e a).failAttempt = s.failAttempt.withLine { e with yieldFlag := true } a := by
  have item : (s.withLine e a).attemptItem = s.attemptItem := rfl
  have marked : (s.withLine e a).attemptMarked = s.attemptMarked := rfl
  have counter : (s.withLine e a).ss.counter = s.ss.counter := rfl
  have counted : (s.withLine e a).failureCounted = s.failureCounted.withLine { e with yieldFlag := true } a := rfl
  rw [State.failAttempt_eq, State.failAttempt_eq, item, marked, counter, counted, State.cancelMarked_withLine,
    State.endItem_withLine]
  split
  · rfl
  · split
    · rfl
    · split <;> rfl

theorem State.failAttempt_le : s.failAttempt.le = { s.le with yieldFlag := true } := s.sameBesidePort_failAttempt.le

/-- The head won makes no difference to a failed attempt but the line's own. -/
theorem State.failAttempt_winHead : s.winHead.failAttempt = s.failAttempt.withLine s.winHead.failAttempt.le s.au := by
  rcases s.winHead_cases with ⟨-, won⟩ | ⟨-, same⟩
  · rw [won, State.failAttempt_le]; exact s.failAttempt_withLine _ s.au
  · have au : s.failAttempt.au = s.au := s.sameBesidePort_failAttempt.au
    rw [same, ← au]; rfl

end

/-! ## The item of an attempt in a lawful queue -/

/-- A request in attempt is the head, by the attempt's item (R118). -/
theorem State.head_of_attempt {s : State} {f : Frame} {tag : Octet} (attempt : s.ss.attempt = some ⟨f, some (.request tag)⟩)
    (consistent : s.attemptConsistent = true) : s.ss.counted = some (.request tag) ∧
      ∃ r rest, s.hp.queue = r :: rest ∧ r.tag = tag ∧ r.inAttempt = true := by
  simp only [State.attemptConsistent, attempt, Bool.and_eq_true, beq_iff_eq] at consistent
  obtain ⟨-, counted, head⟩ := consistent
  refine ⟨counted, ?_⟩
  cases queue : s.hp.queue with
  | nil => simp [queue] at head
  | cons r rest => exact ⟨r, rest, rfl, by simpa [queue] using head⟩

/-- While a duty is in attempt, no request is (R118). -/
theorem State.unmarked_of_duty {s : State} {f : Frame} {i : Item} (attempt : s.ss.attempt = some ⟨f, some i⟩)
    (duty : ∀ tag, i ≠ .request tag) (consistent : s.attemptConsistent = true) :
    ∀ r ∈ s.hp.queue, r.inAttempt = false := by
  simp only [State.attemptConsistent, attempt, Bool.and_eq_true] at consistent
  obtain ⟨-, -, unmarked⟩ := consistent
  cases i with
  | request tag => exact absurd rfl (duty tag)
  | _ => simpa using unmarked

theorem State.requestInAttempt_of_unmarked {s : State} (unmarked : ∀ r ∈ s.hp.queue, r.inAttempt = false) :
    s.requestInAttempt = none := by
  simpa [State.requestInAttempt] using unmarked

/-- Clearing the marks of a list that has none. -/
theorem map_unmarked {q : List Request} (unmarked : ∀ r ∈ q, r.inAttempt = false) :
    q.map (fun r => { r with inAttempt := false }) = q :=
  (List.map_congr_left fun r hr => by rw [← unmarked r hr]; rfl).trans (List.map_id _)

/-- No request is both in attempt and marked where none in the queue is. -/
theorem State.attemptMarked_of_none {s : State}
    (none : s.hp.queue.any (fun r => r.inAttempt && r.cancelMark) = false) : s.attemptMarked = false := by
  unfold State.attemptMarked
  cases found : s.requestInAttempt with
  | none => rfl
  | some r =>
    have attempt : r.inAttempt = true := by simpa using List.find?_some found
    have mem := List.mem_of_find?_eq_some found
    simpa [attempt] using (List.any_eq_false.mp none) r mem

theorem State.cancelMarked_of_not_marked {s : State} (h : s.attemptMarked = false) : s.cancelMarked = s := by
  unfold State.attemptMarked at h
  unfold State.cancelMarked
  split
  · rename_i r found
    rw [found] at h
    rw [if_neg (by rw [show r.cancelMark = false from h]; decide)]
  · rfl

/-! ## A request in hand answered and removed (R121, R122) -/

section
variable {s : State} {r : Request} {rest : List Request} (answer : Indication)

theorem State.removed_head (queue : s.hp.queue = r :: rest) :
    ((s.removeRequest r.tag).indicate answer).returnRecord r.body =
      ((s.indicate answer).returnRecord r.body).withQueue rest (s.ss.without [r]) := by
  rw [State.removeRequest_of_head queue, State.indicate_withQueue, State.returnRecord_withQueue]

theorem SendSelector.without_of_counted {x : SendSelector} (counted : x.counted = some (.request r.tag)) :
    x.without [r] = { x with counted := none, counter := 0 } := by
  simp [SendSelector.without, counted]

/-- A counted request in hand leaves a lawful queue's head, and the attempt is dropped. -/
theorem State.removed_head_dropAttempt (queue : s.hp.queue = r :: rest) (lawful : s.requestsLawful = true)
    (counted : s.ss.counted = some (.request r.tag)) :
    (((s.removeRequest r.tag).indicate answer).returnRecord r.body).dropAttempt =
      (({ s with ss := ⟨none, none, 0⟩, hp := { s.hp with queue := rest } } : State).indicate answer).returnRecord
        r.body := by
  have tail : rest.map (fun r => { r with inAttempt := false }) = rest := by
    have unmarked := State.unmarked_tail lawful
    rwa [queue] at unmarked
  have after : ({ s with ss := ⟨none, none, 0⟩, hp := { s.hp with queue := rest } } : State) =
      s.withQueue rest ⟨none, none, 0⟩ := rfl
  rw [State.removed_head answer queue, SendSelector.without_of_counted counted, after, State.indicate_withQueue,
    State.returnRecord_withQueue]
  simp only [State.dropAttempt, State.clearMarks, State.withQueue, State.onSs, State.onHp, tail]

theorem State.uncount_removed_head_dropAttempt (queue : s.hp.queue = r :: rest) (lawful : s.requestsLawful = true)
    (counted : s.ss.counted = some (.request r.tag)) :
    (((s.removeRequest r.tag).indicate answer).returnRecord r.body).uncount.dropAttempt =
      (({ s with ss := ⟨none, none, 0⟩, hp := { s.hp with queue := rest } } : State).indicate answer).returnRecord
        r.body := by
  rw [← State.removed_head_dropAttempt answer queue lawful counted, State.removed_head answer queue,
    SendSelector.without_of_counted counted]
  rfl

end

/-! ## The failed attempt (R121) -/

section
variable {s : State} {f : Frame} {i : Item}

theorem State.failAttempt_of_item (attempt : s.ss.attempt = some ⟨f, some i⟩) : s.failAttempt =
    if s.attemptMarked then s.failureCounted.cancelMarked.dropAttempt
    else if 8 ≤ s.ss.counter + 1 then s.failureCounted.endItem.dropAttempt
    else s.failureCounted.dropAttempt := by
  have item : s.attemptItem = some i := by rw [State.attemptItem, attempt]; rfl
  rw [State.failAttempt_eq, item]

theorem State.failAttempt_of_none (attempt : s.ss.attempt = some ⟨f, none⟩) :
    s.failAttempt = s.setYield.dropAttempt := by
  have item : s.attemptItem = none := by rw [State.attemptItem, attempt]; rfl
  rw [State.failAttempt_eq, item]

/-- Settles O28: the mark decides first, then the count; a request is the lawful queue's head. -/
theorem failedAttempt : Obligations.FailedAttempt := by
  refine ⟨fun s f i attempt lawful consistent => ⟨fun below unmarked => ?_, fun r rest queue item seven unmarked => ?_,
    fun r rest queue item mark => ?_, fun duty seven => ?_⟩, fun s f attempt => State.failAttempt_of_none attempt⟩
  · rw [State.failAttempt_of_item attempt, State.attemptMarked_of_none unmarked, if_neg (by decide),
      if_neg (by omega)]
    rfl
  · subst item
    obtain ⟨counted, r', rest', queue', -, inAttempt⟩ := State.head_of_attempt attempt consistent
    obtain ⟨rfl, rfl⟩ := List.cons.inj (queue.symm.trans queue')
    have found : s.failureCounted.requestInAttempt = some r :=
      State.requestInAttempt_of_head (s := s.failureCounted) queue inAttempt
    have notMarked : s.attemptMarked = false := by
      rw [State.attemptMarked, State.requestInAttempt_of_head queue inAttempt]; exact unmarked
    rw [State.failAttempt_of_item attempt, notMarked, if_neg (by decide), if_pos (by omega), State.endItem, found]
    exact State.uncount_removed_head_dropAttempt (s := s.failureCounted) _ queue lawful counted
  · subst item
    obtain ⟨counted, r', rest', queue', -, inAttempt⟩ := State.head_of_attempt attempt consistent
    obtain ⟨rfl, rfl⟩ := List.cons.inj (queue.symm.trans queue')
    have found : s.failureCounted.requestInAttempt = some r :=
      State.requestInAttempt_of_head (s := s.failureCounted) queue inAttempt
    have marked : s.attemptMarked = true := by
      rw [State.attemptMarked, State.requestInAttempt_of_head queue inAttempt]; exact mark
    rw [State.failAttempt_of_item attempt, marked, if_pos rfl, State.cancelMarked, found]
    simp only [mark, if_true]
    exact State.removed_head_dropAttempt (s := s.failureCounted) _ queue lawful counted
  · have unmarked := State.unmarked_of_duty attempt duty consistent
    have noRequest : s.failureCounted.requestInAttempt = none :=
      State.requestInAttempt_of_unmarked (s := s.failureCounted) unmarked
    have notMarked : s.attemptMarked = false := by
      rw [State.attemptMarked, State.requestInAttempt_of_unmarked unmarked]
    rw [State.failAttempt_of_item attempt, notMarked, if_neg (by decide), if_pos (by omega), State.endItem, noRequest]
    simp only [State.dropAttempt, State.clearMarks, State.uncount, State.failureCounted, State.setYield, State.onLe,
      State.onSs, State.onHp, map_unmarked unmarked]

end

/-! ## Arbitration lost (R104) -/

/-- Losing with no request to cancel drops the attempt alone. -/
theorem State.loseAttempt_of_not_marked {s : State} (h : s.attemptMarked = false) : s.loseAttempt = s.dropAttempt := by
  unfold State.loseAttempt
  split
  · rfl
  · rw [State.cancelMarked_of_not_marked h]

theorem State.returnRecord_onLe (f : LineEngine → LineEngine) (s : State) (body : RequestBody) :
    (s.returnRecord body).onLe f = (s.onLe f).returnRecord body := by
  have le := (s.sameBesidePort_returnRecord body).le
  have au := (s.sameBesidePort_returnRecord body).au
  calc (s.returnRecord body).onLe f
      = (s.returnRecord body).withLine (f (s.returnRecord body).le) (s.returnRecord body).au := rfl
    _ = (s.withLine (f s.le) s.au).returnRecord body := by rw [le, au, State.returnRecord_withLine]

/-- Settles O29: the loss drops the attempt, after the answer to a marked request in hand. -/
theorem arbitrationLost : Obligations.ArbitrationLost := by
  intro s f oi winner released attempt
  have head : s.attemptHead = some f.head := by rw [State.attemptHead, attempt]; rfl
  have runs : exec (.lostArbitration winner) s = .next (s.loseArbitration winner) :=
    congrArg _ (State.unlessReset_of_false released _)
  rw [runs]
  refine ⟨fun contending lower => ?_, fun other => ?_⟩
  · have lost : s.loseArbitration winner = s.loseAttempt.onLe (fun e =>
        { e with line := .receiving, rxBits := bitsUntilLoss (dataBits winner) (dataBits f.head) }) := by
      rw [State.loseArbitration, head]
      exact if_pos ⟨contending, lower⟩
    dsimp only
    rw [lost]
    refine ⟨fun unmarked _ => ?_, fun r rest queue item inAttempt mark lawful counted => ?_⟩
    · rw [State.loseAttempt_of_not_marked (State.attemptMarked_of_none unmarked)]
      rfl
    · have hasItem : s.attemptItem = some (.request r.tag) := by rw [State.attemptItem, attempt]; exact item
      have cancelled : s.loseAttempt = (s.cancelRequest r).dropAttempt := by
        simp only [State.loseAttempt, hasItem, State.cancelMarked, State.requestInAttempt_of_head queue inAttempt, mark,
          if_true]
      rw [cancelled, State.cancelRequest, State.removed_head_dropAttempt _ queue lawful (counted.trans item)]
      exact congrArg _ (State.returnRecord_onLe _ _ r.body)
  · rw [State.loseArbitration, head]
    exact congrArg _ (if_neg fun both => other.elim (· both.1) (Nat.not_le.mpr both.2))

/-! ## Collision (R105) -/

theorem characterBits_length (o : Octet) : (characterBits o).length = 10 := rfl

/-- The bit at a position stands in the character of its tens. -/
theorem bits_getElem? : ∀ (octets : List Octet) (n : Nat),
    (octets.flatMap characterBits)[n]? = (octets[n / 10]?).bind (fun o => (characterBits o)[n % 10]?)
  | [], n => by simp
  | o :: rest, n => by
    rw [List.flatMap_cons]
    by_cases first : n < 10
    · rw [List.getElem?_append_left (by rwa [characterBits_length]), Nat.div_eq_of_lt first, Nat.mod_eq_of_lt first]
      rfl
    · have tens : n / 10 = (n - 10) / 10 + 1 := by omega
      have ones : n % 10 = (n - 10) % 10 := by omega
      rw [List.getElem?_append_right (by rw [characterBits_length]; omega), characterBits_length, bits_getElem? rest,
        tens, ones, List.getElem?_cons_succ]

theorem dataBits_take (o : Octet) {n : Nat} (h : n ≤ 8) : (dataBits o).take n = ((characterBits o).drop 1).take n := by
  rw [dataBits, List.take_take, Nat.min_eq_left h]

/-- Settles O30: the collision fails the attempt of the head won, which differs from the state's own in the line alone. -/
theorem collisionTruncates : Obligations.CollisionTruncates := by
  intro s a n released attempt sending past bit
  have line : s.winHead.le.line = .sending := by
    rw [s.winHead_sending]; rcases sending with e | e <;> rw [e] <;> rfl
  have collided : s.collide n = (s.winHead.failAttempt.onLe (fun e =>
      { e with line := .receiving, rxBits := collidedBits a.frame.octets n })).onAu
        (fun x => { x with partialFrame := collidedCharacters a.frame.octets n, heard := none }) := by
    simp only [State.collide, State.winHead_ss, attempt]
    exact if_pos ⟨line, past, bit⟩
  have runs : exec (.collision n) s = .next (s.collide n) := congrArg _ (State.unlessReset_of_false released _)
  have frame := s.winHead.sameBesidePort_failAttempt
  have same := s.failAttempt_winHead
  obtain ⟨o, octet, -⟩ := Option.bind_eq_some_iff.mp ((bits_getElem? a.frame.octets n).symm.trans bit)
  have first : (a.frame.octets.drop (n / 10)).head? = some o := by rw [List.head?_drop]; exact octet
  refine ⟨_, runs, ?_⟩
  rw [collided]
  refine ⟨by rw [same]; rfl, by rw [same]; rfl, frame.tu.trans s.winHead_tu, frame.mc.trans s.winHead_mc, rfl,
    congrArg (·.yieldFlag) frame.le, (congrArg (·.gapCount) frame.le).trans s.winHead_gapCount,
    congrArg (·.order) (frame.au.trans s.winHead_au), congrArg (·.clusterKnown) (frame.au.trans s.winHead_au),
    congrArg (·.orderHold) (frame.au.trans s.winHead_au), rfl, o, octet, fun inside => ⟨?_, ?_⟩, fun stop => ⟨?_, ?_⟩⟩
  · exact if_neg inside
  · rw [← dataBits_take o (by omega)]
    simp [collidedBits, inside, first]
  · exact if_pos stop
  · have taken : (a.frame.octets.drop (n / 10)).take 1 = [o] := by rw [List.take_one, first]; rfl
    simp [collidedCharacters, stop, taken]

/-! ## The line held (R112) -/

/-- Settles O23: a sender's attempt fails before the line is held, whether or not its head was won before. -/
theorem lineHeldCondition : Obligations.LineHeldCondition := by
  intro s released
  have runs : exec .lineHeldBegin s = .next s.beginHeld := congrArg _ (State.unlessReset_of_false released _)
  have own : s.ownInSlot = s.au.heard.any (fun h => h.own) := by
    unfold State.ownInSlot; cases s.au.heard <;> rfl
  dsimp only
  rw [runs, ← own]
  refine ⟨fun notHeld notSending => ?_, fun sending => ?_, fun held => ⟨?_, ?_⟩⟩
  · have notContending : s.le.line ≠ .contending := fun e => notSending (.inl e)
    have truncated : s.winHead.truncateHeld = s.onAu (fun a => { a with partialFrame := [], heard := none }) := by
      rw [State.winHead, if_neg notContending, State.truncateHeld, if_neg fun h => notSending (.inr h)]
    rw [State.beginHeld, if_neg notHeld, truncated]
    rfl
  · have notHeld : s.le.line ≠ .held := by
      rcases sending with e | e | ⟨e, -⟩ <;> rw [e] <;> decide
    have fails : s.winHead.truncateHeld =
        s.winHead.failAttempt.onAu (fun a => { a with partialFrame := [], heard := none }) := by
      rw [State.truncateHeld]
      refine congrArg (State.onAu _) (if_pos ?_)
      rcases s.winHead_cases with ⟨-, won⟩ | ⟨notContending, same⟩
      · rw [won]; exact .inl rfl
      · rw [same]; exact sending.resolve_left notContending
    rw [State.beginHeld, if_neg notHeld, fails, State.failAttempt_winHead, State.failAttempt_le]
    refine congrArg (fun t => Host.Outcome.next (State.indicate _ t)) ?_
    simp only [State.withLine, State.onAu, State.onLe, s.failAttempt_le, s.sameBesidePort_failAttempt.au,
      State.setYield_au, State.winHead_gapCount]
  · rw [State.beginHeld, if_pos held]
  · refine congrArg _ ((State.unlessReset_of_false released _).trans ?_)
    rw [State.endHeld, if_pos held]
    rfl

/-! ## The slot window of a heard frame -/

/-- The end of the slot window of a heard frame, by what was seen in it (R80, R106). -/
theorem exec_slotWindowEnd_of_heard {h : HeardFrame} {s : State} (slot : s.inSlotOf h = true) (seen : SlotSeen) :
    exec (.slotWindowEnd seen) s = .next
      (if h.objection ≠ .none ∧ seen = .nothing then s.haltedBy .driverFault
      else s.slotEnded.takeOutcome h (slotOutcome (slotReport seen))) := by
  obtain ⟨released, line, heard⟩ := (s.inSlotOf_iff h).mp slot
  refine congrArg _ ((State.unlessReset_of_false released _).trans ?_)
  simp only [State.closeSlot, State.slotRuns, line, heard]
  rfl

/-- Settles O31: the entry into HALTED is `State.haltedBy`, from the line, from an objector's slot and from a duplicate. -/
theorem haltingFaults : Obligations.HaltingFaults := by
  refine ⟨fun s released => ⟨fun drives => ?_, fun silent => ?_, fun h slot objects => ?_⟩, fun s f slot sender station => ?_⟩
  · refine congrArg _ ((State.unlessReset_of_false released _).trans ?_)
    rw [State.faultDriver, if_pos drives, State.enterHalted_eq]
  · refine congrArg _ ((State.unlessReset_of_false released _).trans ?_)
    rw [State.faultDriver, if_neg (not_not.mpr silent)]
  · rw [exec_slotWindowEnd_of_heard slot, if_pos ⟨objects, rfl⟩]
  · have tests : s.slotEnded.station.testsDuplicate = true := by
      change s.station.testsDuplicate = true
      rcases station with e | e | e | e <;> rw [e] <;> rfl
    rw [exec_slotWindowEnd_of_heard slot, if_neg fun objects => objects.1 rfl]
    change Host.Outcome.next (s.slotEnded.acceptFrame false (some f)) = _
    rw [State.acceptFrame, if_pos ⟨tests, sender, rfl⟩]
    rfl

theorem slotOutcome_startBit {o : Octet} (h : o ≠ 0x3C) : slotOutcome (slotReport (.startBit o)) = .rejected := if_neg h

/-- A station that did not send the frame takes nothing of an objected one (R81). -/
theorem State.takeOutcome_of_objected {h : HeardFrame} {outcome : SlotOutcome} (notOwn : h.own = false)
    (objected : outcome ≠ .accepted) (s : State) : s.takeOutcome h outcome = s := by
  cases outcome with
  | accepted => exact absurd rfl objected
  | rejected => simp [State.takeOutcome, notOwn]
  | ordered => simp [State.takeOutcome, notOwn]

/-- A character in the slot is an objection (R109). -/
theorem slotOutcome_ne_accepted {seen : SlotSeen} (h : seen ≠ .nothing) : slotOutcome (slotReport seen) ≠ .accepted := by
  cases seen with
  | nothing => exact absurd rfl h
  | startBit o => change (if o = 0x3C then SlotOutcome.ordered else .rejected) ≠ _; split <;> decide
  | lateDominant => decide

/-- Settles O33: an objected frame reaches its sender's attempt alone. -/
theorem objectedFrame : Obligations.ObjectedFrame := by
  refine ⟨fun s h seen slot notOwn something => ?_, fun s f o slot => ⟨fun other => ?_, ?_⟩⟩
  · rw [exec_slotWindowEnd_of_heard slot, if_neg fun both => something both.2,
      State.takeOutcome_of_objected notOwn (slotOutcome_ne_accepted something)]
  · rw [exec_slotWindowEnd_of_heard slot, if_neg fun both => both.1 rfl, slotOutcome_startBit other]
    rfl
  · rw [exec_slotWindowEnd_of_heard slot, if_neg fun both => both.1 rfl]
    rfl

/-! ## The own frame objected with ORDER (R89) -/

theorem List.length_eraseP_eq {α : Type} (p : α → Bool) (l : List α) :
    (l.eraseP p).length = l.length - if l.any p then 1 else 0 := by
  by_cases h : l.any p = true
  · obtain ⟨a, mem, holds⟩ := List.any_eq_true.mp h
    rw [List.length_eraseP_of_mem mem holds, if_pos h]
  · rw [List.eraseP_of_forall_not fun a mem => by simpa using List.any_eq_false.mp (by simpa using h) a mem, if_neg h,
      Nat.sub_zero]

/-- The tag of a queued LEAVE is the tag of a queued request. -/
theorem State.leaveTag_queued {s : State} (h : s.leaveQueued = true) :
    s.hp.queue.any (fun r => r.tag == s.leaveTag) = true := by
  obtain ⟨r, mem, leave⟩ := List.any_eq_true.mp h
  unfold State.leaveTag
  cases found : s.hp.queue.find? (fun r => r.body == .leave) with
  | none => exact absurd leave (List.find?_eq_none.mp found r mem)
  | some x => exact List.any_eq_true.mpr ⟨x, List.mem_of_find?_eq_some found, beq_self_eq_true _⟩

/-- The cluster left for a cause (R59, R60, R92): the LEAVE whose tag STATE carries is not counted. -/
theorem State.leaveClusterFor_eq (s : State) (cause : Cause) :
    s.leaveClusterFor cause = s.outsideBy cause s.leaveTag s.discardedBesideLeave := by
  have discarded : s.takeLeave.hp.queue.length = s.discardedBesideLeave := by
    unfold State.takeLeave State.discardedBesideLeave
    by_cases leave : s.leaveQueued = true
    · rw [if_pos leave, State.removeRequest_queue, List.length_eraseP_eq, State.leaveTag_queued leave, if_pos rfl]
      exact congrArg _ (if_pos leave).symm
    · rw [if_neg leave, if_neg (c := s.hp.queue.any (fun r => r.body == .leave) = true) leave, Nat.sub_zero]
  rw [State.leaveClusterFor, State.enterOutside_eq, discarded]
  unfold State.takeLeave
  split
  · unfold State.removeRequest
    split <;> rfl
  · rfl

theorem State.returnRecord_onAu (f : AcceptanceUnit → AcceptanceUnit) (s : State) (body : RequestBody) :
    (s.returnRecord body).onAu f = (s.onAu f).returnRecord body := by
  have le := (s.sameBesidePort_returnRecord body).le
  have au := (s.sameBesidePort_returnRecord body).au
  calc (s.returnRecord body).onAu f
      = (s.returnRecord body).withLine (s.returnRecord body).le (f (s.returnRecord body).au) := rfl
    _ = (s.withLine s.le (f s.au)).returnRecord body := by rw [le, au, State.returnRecord_withLine]

/-- What an ORDER objection comes to at each station state, once the attempt has ended (R89). -/
theorem State.actOnOrder_cases (f : Frame) (t : State) :
    (t.station = .inStep → t.actOnOrder f = t.divergedBy .orderObjected) ∧
    (t.station = .joining → t.tu.installed ≠ 0 →
      t.actOnOrder f = t.outsideBy .orderObjected t.leaveTag t.discardedBesideLeave) ∧
    (t.station = .joining → t.tu.installed = 0 → t.actOnOrder f = t) ∧
    (t.station = .diverged → t.actOnOrder f = t) ∧
    (t.station = .outside → t.actOnOrder f =
      { t with au := { t.au with clusterKnown := (f.body == .join true) || t.au.clusterKnown } }) := by
  refine ⟨fun h => ?_, fun h part => ?_, fun h empty => ?_, fun h => ?_, fun h => ?_⟩ <;> simp only [State.actOnOrder, h]
  · exact t.enterDiverged_eq _
  · rw [if_neg part, State.leaveClusterFor_eq]
  · rw [if_pos empty]
  · by_cases found : f.body = .join true
    · rw [if_pos found, found]; rfl
    · rw [if_neg found, beq_false_of_ne found]; rfl

/-- Settles O34: the attempt ends first, and the station acts by the state it was in. -/
theorem ownFrameOrdered : Obligations.OwnFrameOrdered := by
  intro s f oi slot attempt lawful consistent
  have runs : exec (.slotWindowEnd (.startBit 0x3C)) s = .next (s.slotEnded.orderAttempt f) := by
    rw [exec_slotWindowEnd_of_heard slot, if_neg fun both => both.1 rfl]
    rfl
  have acts (t : State) (station : t.station = s.station) (installed : t.tu.installed = s.tu.installed)
      (known : t.au.clusterKnown = s.au.clusterKnown) (ends : s.slotEnded.orderAttempt f = t.actOnOrder f) :
      (s.station = .inStep → exec (.slotWindowEnd (.startBit 0x3C)) s = .next (t.divergedBy .orderObjected)) ∧
      (s.station = .joining → s.tu.installed ≠ 0 → exec (.slotWindowEnd (.startBit 0x3C)) s =
        .next (t.outsideBy .orderObjected t.leaveTag t.discardedBesideLeave)) ∧
      (s.station = .joining → s.tu.installed = 0 → exec (.slotWindowEnd (.startBit 0x3C)) s = .next t) ∧
      (s.station = .diverged → exec (.slotWindowEnd (.startBit 0x3C)) s = .next t) ∧
      (s.station = .outside → exec (.slotWindowEnd (.startBit 0x3C)) s = .next
        { t with au := { t.au with clusterKnown := (f.body == .join true) || s.au.clusterKnown } }) := by
    rw [runs, ends, ← station, ← installed, ← known]
    obtain ⟨inStep, part, noPart, diverged, outside⟩ := t.actOnOrder_cases f
    exact ⟨fun h => congrArg _ (inStep h), fun h i => congrArg _ (part h i), fun h i => congrArg _ (noPart h i),
      fun h => congrArg _ (diverged h), fun h => congrArg _ (outside h)⟩
  have item : s.slotEnded.setYield.attemptItem = oi := by
    change s.ss.attempt.bind _ = _
    rw [attempt]; rfl
  refine ⟨fun unmarked => acts _ rfl rfl rfl ?_, fun r rest queue request mark => ?_⟩
  · have same : s.slotEnded.setYield.cancelMarked = s.slotEnded.setYield :=
      State.cancelMarked_of_not_marked (State.attemptMarked_of_none unmarked)
    rw [State.orderAttempt, item]
    cases oi with
    | none => rfl
    | some i => simp only [same]; rfl
  · subst request
    obtain ⟨counted, r', rest', queue', -, inAttempt⟩ := State.head_of_attempt attempt consistent
    obtain ⟨rfl, rfl⟩ := List.cons.inj (queue.symm.trans queue')
    have cancelled : s.slotEnded.setYield.cancelMarked.dropAttempt =
        (({ s.slotEnded.setYield with ss := ⟨none, none, 0⟩, hp := { s.hp with queue := rest } } : State).indicate
          (.cancelled r.tag r.body.kind)).returnRecord r.body := by
      have found : s.slotEnded.setYield.requestInAttempt = some r :=
        State.requestInAttempt_of_head (s := s.slotEnded.setYield) queue inAttempt
      simp only [State.cancelMarked, found, mark, if_true]
      exact State.removed_head_dropAttempt (s := s.slotEnded.setYield) _ queue lawful counted
    refine acts _ ?_ ?_ ?_ ?_
    · exact congrArg (·.mc.state) (State.sameBesidePort_returnRecord _ r.body)
    · exact congrArg (·.tu.installed) (State.sameBesidePort_returnRecord _ r.body)
    · exact congrArg (·.au.clusterKnown) (State.sameBesidePort_returnRecord _ r.body)
    · rw [State.orderAttempt, item]
      refine congrArg (State.actOnOrder f) ?_
      simp only [cancelled]
      exact State.returnRecord_onAu _ _ r.body

end Sys2Proof.Machine
end

section
/-!
SUPPORT. The Send Selector's choice and build (R69 to R72, R116, Table 7-2, Table 4-3): the lowest item of an ascending
list, the SNAPSHOT owed, the contents of a part, and one contention point; then the statements.
-/

namespace Sys2Proof.Machine

/-! ## The lowest of an ascending list -/

theorem allStations_eq : allStations = List.finRange 16 := by decide
theorem allParts_eq : allParts = List.finRange 13 := by decide

/-- The first number of an ascending list that passes a test is the lowest that does. -/
theorem finRange_find?_eq_some_iff {n : Nat} (p : Fin n → Bool) (t : Fin n) :
    (List.finRange n).find? p = some t ↔ p t = true ∧ ∀ k < t, p k = false := by
  rw [← Fin.find?_eq_find?_finRange, Fin.find?_eq_some_iff]

theorem finRange_find?_eq_none_iff {n : Nat} (p : Fin n → Bool) :
    (List.finRange n).find? p = none ↔ ∀ k, p k = false := by
  simp [List.find?_eq_none]

/-! ## The SNAPSHOT owed (R71, R128) -/

/-- A set that is not complete lacks a part. -/
theorem ne_allPartsSet_iff (set : PartSet) : set ≠ allPartsSet ↔ ∃ p : PartNo, hasPart set p = false := by
  rw [← not_iff_not, not_not, not_exists]
  constructor
  · rintro rfl p
    simp only [hasPart, allPartsSet, BitVec.getLsbD_allOnes, p.isLt, decide_true]
    decide
  · intro all
    apply BitVec.eq_of_getLsbD_eq
    intro i hi
    have has : set.getLsbD i = true := by simpa [hasPart] using all ⟨i, hi⟩
    rw [has, allPartsSet, BitVec.getLsbD_allOnes, decide_eq_true hi]

theorem State.any_lacks_iff (s : State) (p : PartNo) : s.tu.roster.toList.any (fun e => e.lacks p) = true ↔
    ∃ t, s.standing t = .joining ∧ hasPart (s.entry t).installed p = false := by
  rw [List.any_eq_true]
  constructor
  · rintro ⟨e, mem, lacks⟩
    obtain ⟨i, hi, rfl⟩ := List.mem_iff_getElem.mp mem
    refine ⟨⟨i, by simpa using hi⟩, ?_⟩
    simpa [RosterEntry.lacks, State.standing, State.entry] using lacks
  · rintro ⟨t, joining, lacks⟩
    refine ⟨s.entry t, by simp [State.entry], ?_⟩
    have standing : (s.entry t).standing = .joining := joining
    simp [RosterEntry.lacks, standing, lacks]

/-- The lowest part that some JOINING entry lacks (R71). -/
theorem State.lowestMissing_eq_some_iff (s : State) (p : PartNo) : lowestMissing s.tu.roster = some p ↔
    (∃ t, s.standing t = .joining ∧ hasPart (s.entry t).installed p = false) ∧
      ∀ q < p, ∀ t, s.standing t = .joining → hasPart (s.entry t).installed q = true := by
  rw [lowestMissing, allParts_eq, finRange_find?_eq_some_iff, State.any_lacks_iff]
  refine and_congr_right fun _ => forall₂_congr fun q _ => ?_
  rw [← Bool.not_eq_true, State.any_lacks_iff]
  simp

theorem State.lowestMissing_isSome_iff (s : State) : (lowestMissing s.tu.roster).isSome = true ↔
    ∃ t, s.standing t = .joining ∧ (s.entry t).installed ≠ allPartsSet := by
  have none : lowestMissing s.tu.roster = none ↔
      ∀ p t, s.standing t = .joining → hasPart (s.entry t).installed p = true := by
    rw [lowestMissing, allParts_eq, finRange_find?_eq_none_iff]
    refine forall_congr' fun p => ?_
    rw [← Bool.not_eq_true, State.any_lacks_iff]
    simp
  rw [← Option.ne_none_iff_isSome, ne_eq, none]
  simp only [ne_allPartsSet_iff]
  constructor
  · intro h
    push Not at h
    obtain ⟨p, t, joining, lacks⟩ := h
    exact ⟨t, joining, p, by simpa using lacks⟩
  · rintro ⟨t, joining, p, lacks⟩ all
    rw [all p t joining] at lacks
    exact Bool.noConfusion lacks

/-- The SNAPSHOT is a candidate of an IN STEP station: it is the source, and a part is missing from a JOINING entry. -/
theorem State.snapshotCandidate_iff {s : State} (station : s.station = .inStep) : s.snapshotCandidate = true ↔
    s.standing s.me = .member ∧ (∀ t < s.me, s.standing t ≠ .member) ∧
      ∃ t, s.standing t = .joining ∧ (s.entry t).installed ≠ allPartsSet := by
  have source : rosterSource s.tu.roster = some s.me ↔
      s.standing s.me = .member ∧ ∀ t < s.me, s.standing t ≠ .member := rosterSource_eq_some_iff _ _
  have anyJoining : allStations.any (fun t => s.standing t == .joining) = true ↔ ∃ t, s.standing t = .joining := by
    simp [allStations_eq]
  simp only [State.snapshotCandidate, State.snapshotPending, station, Bool.and_eq_true, beq_iff_eq]
  rw [source, anyJoining, State.lowestMissing_isSome_iff]
  constructor
  · rintro ⟨⟨⟨-, member, lowest⟩, -⟩, missing⟩
    exact ⟨member, lowest, missing⟩
  · rintro ⟨member, lowest, t, joining, missing⟩
    exact ⟨⟨⟨trivial, member, lowest⟩, t, joining⟩, t, joining, missing⟩

/-! ## The choice (R116, Table 7-2) -/

theorem State.presenceCandidate_eq {s : State} (h : s.station = .joining ∨ s.station = .inStep) :
    s.presenceCandidate = if s.mc.presence = .expired then some .presence else none := by
  simp [State.presenceCandidate, State.presencePending_iff, h]

/-- The lowest pending EVICT of an IN STEP station (R125). -/
theorem State.lowestEvict_eq_some_iff {s : State} (station : s.station = .inStep) (t : Station) :
    s.lowestEvict = some t ↔ s.mc.silence[t] = .expired ∧ ∀ k < t, s.mc.silence[k] ≠ .expired := by
  rw [State.lowestEvict, allStations_eq, finRange_find?_eq_some_iff]
  simp [State.evictPending, station]

theorem State.lowestEvict_eq_none_iff {s : State} (station : s.station = .inStep) :
    s.lowestEvict = none ↔ ∀ t : Station, s.mc.silence[t] ≠ .expired := by
  rw [State.lowestEvict, allStations_eq, finRange_find?_eq_none_iff]
  simp [State.evictPending, station]

/-- The head request of one kind, as its pattern on the queue. -/
theorem State.headIf_join (s : State) : s.headIf (· == .join) = match s.hp.queue with
    | ⟨.join, tag, _, _⟩ :: _ => some (.request tag)
    | _ => none := by
  unfold State.headIf
  cases s.hp.queue with
  | nil => rfl
  | cons r rest => obtain ⟨body, tag, m, k⟩ := r; cases body <;> rfl

theorem State.headIf_leave_or (s : State) (other : Option Item) :
    (s.headIf (· == .leave)).or other = match s.hp.queue with
    | ⟨.leave, tag, _, _⟩ :: _ => some (.request tag)
    | _ => other := by
  unfold State.headIf
  cases s.hp.queue with
  | nil => rfl
  | cons r rest => obtain ⟨body, tag, m, k⟩ := r; cases body <;> rfl

theorem State.headIf_any_or (s : State) (other : Option Item) :
    (s.headIf (fun _ => true)).or other = match s.hp.queue with
    | r :: _ => some (.request r.tag)
    | [] => other := by
  unfold State.headIf
  cases s.hp.queue <;> rfl

/-- Settles O24: each station state is one line of Table 7-2. -/
theorem choiceFollowsTable72 : Obligations.ChoiceFollowsTable72 := by
  intro s
  dsimp only
  refine ⟨fun h => ?_, fun outside => ?_, fun joining => ?_, fun diverged => ?_, fun inStep => ⟨fun t expired lowest => ?_,
    fun silent => ⟨fun owed => ?_, fun notOwed => ?_⟩⟩⟩
  · rcases h with h | h <;> simp only [State.choose, h]
  · simp only [State.choose, outside]
    exact s.headIf_join
  · simp only [State.choose, joining]
    rw [State.presenceCandidate_eq (.inl joining)]
    exact s.headIf_leave_or _
  · simp only [State.choose, diverged]
    exact s.headIf_leave_or _
  · have evict := (State.lowestEvict_eq_some_iff inStep t).mpr ⟨expired, lowest⟩
    simp only [State.choose, inStep, evict]
  · have evict := (State.lowestEvict_eq_none_iff inStep).mpr silent
    simp only [State.choose, inStep, evict]
    exact if_pos ((State.snapshotCandidate_iff inStep).mpr owed)
  · have evict := (State.lowestEvict_eq_none_iff inStep).mpr silent
    simp only [State.choose, inStep, evict]
    rw [if_neg (fun h => notOwed ((State.snapshotCandidate_iff inStep).mp h)),
      State.presenceCandidate_eq (.inr inStep)]
    exact s.headIf_any_or _

/-! ## The contents of a part (R143, Table 9-1) -/

theorem fourOf_eq {α : Type} {n : Nat} (v : Vector α n) (g : Nat) (h : 4 * g + 4 ≤ n) :
    fourOf v g h = Vector.ofFn (fun i : Fin 4 => v[4 * g + i.val]) := by
  ext i hi
  rw [Vector.getElem_ofFn]
  match i, hi with
  | 0, _ => rfl
  | 1, _ => rfl
  | 2, _ => rfl
  | 3, _ => rfl

theorem eightOf_eq {α : Type} {n : Nat} (v : Vector α n) (g : Nat) (h : 8 * g + 8 ≤ n) :
    eightOf v g h = Vector.ofFn (fun i : Fin 8 => v[8 * g + i.val]) := by
  ext i hi
  rw [Vector.getElem_ofFn]
  match i, hi with
  | 0, _ => rfl
  | 1, _ => rfl
  | 2, _ => rfl
  | 3, _ => rfl
  | 4, _ => rfl
  | 5, _ => rfl
  | 6, _ => rfl
  | 7, _ => rfl

section
variable (u : TableUnit)

theorem TableUnit.content_locks (g : Fin 8) : u.content ⟨1 + g.val, by omega⟩ =
    .locks g (Vector.ofFn (fun i : Fin 4 => u.locks[4 * g.val + i.val])) := by
  fin_cases g <;> exact congrArg _ (fourOf_eq u.locks _ _)

theorem TableUnit.content_barriers (g : Fin 2) : u.content ⟨9 + g.val, by omega⟩ =
    .barriers g (Vector.ofFn (fun i : Fin 4 => u.barriers[4 * g.val + i.val])) := by
  fin_cases g <;> exact congrArg _ (fourOf_eq u.barriers _ _)

theorem TableUnit.content_words (g : Fin 2) : u.content ⟨11 + g.val, by omega⟩ =
    .words g (Vector.ofFn (fun i : Fin 8 => u.words[8 * g.val + i.val])) := by
  fin_cases g <;> exact congrArg _ (eightOf_eq u.words _ _)

/-- The contents of a part are of that part. -/
theorem TableUnit.content_part (p : PartNo) : (u.content p).part = p := by
  fin_cases p <;> rfl

end

/-- Settles O25: the duties' bodies by definition, the SNAPSHOT's from the lowest part missing, a request's by its kind. -/
theorem bodiesBuilt : Obligations.BodiesBuilt := by
  refine ⟨fun s r rest => ⟨fun _ => rfl, rfl, rfl, fun p lacks lowest => ⟨?_, s.tu.content_part p⟩, fun queue => ?_⟩,
    fun u => ⟨rfl, u.content_locks, u.content_barriers, u.content_words⟩⟩
  · rw [State.buildBody, (s.lowestMissing_eq_some_iff p).mpr ⟨lacks, lowest⟩]
    rfl
  · simp only [State.buildBody, queue]
    cases body : r.body <;> simp only [State.buildRequest]

/-! ## One contention point (R103, R118) -/

/-- The gap count raised to the contention point. -/
def State.atContention (s : State) : State := s.onLe (fun e => { e with gapCount := max e.gapCount 12 })

theorem State.mayBegin_iff {s : State} (idle : s.le.line = .idle) : s.mayBegin = true ↔
    s.le.yieldFlag = false ∧ s.au.orderHold = false ∧ s.station ≠ .watch ∧ s.station ≠ .halted := by
  simp [State.mayBegin, idle, and_assoc]

/-- A contention point at an IDLE station (R103). -/
theorem exec_contentionPoint_of_idle {s : State} (released : s.resetAsserted = false) (idle : s.le.line = .idle) :
    exec .contentionPoint s =
      .next (if s.mayBegin then s.atContention.offer (s.hp.queue.length + 1) else s.atContention) := by
  refine congrArg _ ((State.unlessReset_of_false released _).trans ?_)
  rw [State.reachContention, if_pos idle]
  rfl

/-- An item that has a body is offered. -/
theorem State.offer_of_body {s : State} {item : Item} {body : FrameBody} (n : Nat) (chosen : s.choose = some item)
    (built : s.buildBody item = some body) : s.offer (n + 1) = s.startAttempt item body := by
  rw [State.offer, chosen]
  simp only [built]

/-- An item without a body is answered, and the choice made again. -/
theorem State.offer_of_no_body {s : State} {item : Item} (n : Nat) (chosen : s.choose = some item)
    (built : s.buildBody item = none) : s.offer (n + 1) = s.answerDeadAbandon.offer n := by
  rw [State.offer, chosen]
  simp only [built]

theorem State.offer_of_no_choice {s : State} (n : Nat) (chosen : s.choose = none) : s.offer (n + 1) = s := by
  rw [State.offer, chosen]

/-- The queue that the start of an attempt leaves: a request's head is marked (R159). -/
def Item.marked (item : Item) (q : List Request) : List Request :=
  match item, q with
  | .request _, r :: rest => { r with inAttempt := true } :: rest
  | _, queue => queue

/-- The start of an attempt, block by block (R69, R110, R118, R120). -/
theorem State.startAttempt_eq (item : Item) (body : FrameBody) (s : State) : s.startAttempt item body =
    { s with
      le := { s.le with line := .contending, gapCount := 0, rxBits := [] }
      au := { s.au with partialFrame := [], heard := none }
      ss :=
        { attempt := some ⟨⟨s.me, s.au.order, body⟩, some item⟩
          counted := some item
          counter := if s.ss.counted = some item then s.ss.counter else 0 }
      hp := { s.hp with queue := item.marked s.hp.queue } } := by
  cases item with
  | request tag =>
    have marked : markHead s.hp.queue = (Item.request tag).marked s.hp.queue := by cases s.hp.queue <;> rfl
    rw [← marked]
    rfl
  | _ => rfl

/-- Settles O26: the chosen item starts an attempt, which sets the gap count that the contention point raised. -/
theorem contentionPoint : Obligations.ContentionPoint := by
  refine ⟨fun s item body released idle yield hold notWatch notHalted chosen built => ?_, fun s released idle blocked => ?_⟩
  · rw [exec_contentionPoint_of_idle released idle, if_pos ((State.mayBegin_iff idle).mpr ⟨yield, hold, notWatch, notHalted⟩),
      State.offer_of_body (s := s.atContention) _ chosen built, State.startAttempt_eq]
    rfl
  · rw [exec_contentionPoint_of_idle released idle]
    split
    · rename_i may
      obtain ⟨yield, hold, notWatch, notHalted⟩ := (State.mayBegin_iff idle).mp may
      have unchosen : s.choose = none := by
        rcases blocked with h | h | h | h | h
        · rw [yield] at h; exact Bool.noConfusion h
        · rw [hold] at h; exact Bool.noConfusion h
        · exact absurd h notWatch
        · exact absurd h notHalted
        · exact h
      rw [State.offer_of_no_choice (s := s.atContention) _ unchosen]
      rfl
    · rfl

/-- The answer to an ABANDON at the head that finds nothing to send (R34, R72). -/
theorem State.answerDeadAbandon_of_head {s : State} {b : BarrierNo} {tag : Octet} {m k : Bool} {rest : List Request}
    (queue : s.hp.queue = ⟨.abandon b, tag, m, k⟩ :: rest) : s.answerDeadAbandon =
      State.indicate (.tooLate tag .abandon (octetOfFin b)) (s.withQueue rest
        (if s.ss.counted = some (.request tag) then { s.ss with counted := none, counter := 0 } else s.ss)) := by
  have removed := State.removeRequest_of_head queue
  have without : s.ss.without [⟨.abandon b, tag, m, k⟩] =
      if s.ss.counted = some (.request tag) then { s.ss with counted := none, counter := 0 } else s.ss := by
    by_cases counted : s.ss.counted = some (.request tag) <;> simp [SendSelector.without, counted]
  simp only [State.answerDeadAbandon, queue]
  rw [removed, without]

/-- An ABANDON whose record has no generation to name has no body (R72). -/
theorem State.buildBody_of_dead_abandon {s : State} {b : BarrierNo} {tag : Octet} {m k : Bool} {rest : List Request}
    (queue : s.hp.queue = ⟨.abandon b, tag, m, k⟩ :: rest)
    (dead : (s.arrival b).phase ≠ .abandonQueued ∨ (s.arrival b).generation = none) :
    s.buildBody (.request tag) = none := by
  simp only [State.buildBody, queue, State.buildRequest]
  rcases dead with phase | generation
  · rw [if_neg phase]
  · rw [generation]; exact ite_self _

/-- Settles O27: the removal leaves one request fewer, and as many repetitions as the shorter queue needs. -/
theorem abandonAnsweredAtBuild : Obligations.AbandonAnsweredAtBuild := by
  intro s b tag m k rest released idle yield hold station queue chosen dead
  have mayBegin : s.mayBegin = true :=
    (State.mayBegin_iff idle).mpr ⟨yield, hold, by rw [station]; decide, by rw [station]; decide⟩
  have answered := State.answerDeadAbandon_of_head (s := s.atContention) queue
  have noBody : s.atContention.buildBody (.request tag) = none :=
    State.buildBody_of_dead_abandon (s := s.atContention) queue dead
  have offers {u : State} (released : u.resetAsserted = false) (idle : u.le.line = .idle) (begins : u.mayBegin = true) :
      exec .contentionPoint u = .next (u.atContention.offer (u.hp.queue.length + 1)) := by
    rw [exec_contentionPoint_of_idle released idle, if_pos begins]
  rw [offers released idle mayBegin, queue, List.length_cons,
    State.offer_of_no_body (s := s.atContention) _ chosen noBody, answered]
  refine Eq.trans ?_ (offers ?_ ?_ ?_).symm
  · rw [State.indicate_hp_queue]; rfl
  · exact released
  · exact idle
  · exact mayBegin

end Sys2Proof.Machine
end

section
/-!
SUPPORT. A fold over records in ascending number, said as one state: the records changed at once, and one run of
indications (R45, R57, R141, R152). Then the evaluation of the watches, and the statements on PUBLISH, POST, CLAIM and
ARRIVE.
-/

namespace Sys2Proof.Machine

/-! ## Folds -/

/-- A fold whose every step on a fresh item leads from the state after some items to the state after one more. -/
theorem foldl_eq_of_step {α σ : Type} {op : σ → α → σ} {after : List α → σ}
    (step : ∀ done a, a ∉ done → op (after done) a = after (done ++ [a])) {l : List α} (fresh : l.Nodup) :
    l.foldl op (after []) = after l := by
  induction l using List.reverseRecOn with
  | nil => rfl
  | append_singleton l a ih =>
    obtain ⟨nodup, -, apart⟩ := List.nodup_append.mp fresh
    have notDone : a ∉ l := fun mem => apart a mem a (List.mem_singleton_self a) rfl
    rw [List.foldl_append, ih nodup, List.foldl_cons, List.foldl_nil, step l a notDone]

/-- The records after a change `g` of those in a list, the others as `f` gives them. -/
@[irreducible] def recordsAfter {α : Type} {n : Nat} (f g : Fin n → α) (done : List (Fin n)) : Vector α n :=
  Vector.ofFn (fun i => if i ∈ done then g i else f i)

section
variable {α : Type} {n : Nat} {f g : Fin n → α} {done : List (Fin n)} {i : Fin n}

theorem recordsAfter_nil (v : Vector α n) (g : Fin n → α) : recordsAfter (fun i => v[i]) g [] = v := by
  ext i hi
  simp [recordsAfter]

theorem recordsAfter_all (all : ∀ i, i ∈ done) : recordsAfter f g done = Vector.ofFn g := by
  simp [recordsAfter, all]

theorem recordsAfter_get (fresh : i ∉ done) : (recordsAfter f g done)[i] = f i := by
  simp [recordsAfter, fresh]

theorem recordsAfter_set (f g : Fin n → α) (done : List (Fin n)) (i : Fin n) :
    (recordsAfter f g done).set i (g i) = recordsAfter f g (done ++ [i]) := by
  ext k hk
  by_cases here : i.val = k
  · have eq : i = ⟨k, hk⟩ := Fin.ext here
    simp [recordsAfter, eq]
  · have ne : (⟨k, hk⟩ : Fin n) ≠ i := fun e => here (congrArg Fin.val e).symm
    simp [recordsAfter, here, ne]

theorem recordsAfter_skip (fresh : i ∉ done) (same : g i = f i) :
    recordsAfter f g (done ++ [i]) = recordsAfter f g done := by
  unfold recordsAfter
  congr 1
  funext k
  by_cases here : k = i
  · subst here; simp [fresh, same]
  · simp [here]

end

theorem allSlots_nodup : allSlots.Nodup := by decide
theorem allBarriers_nodup : allBarriers.Nodup := by decide
theorem allLocks_nodup : allLocks.Nodup := by decide
theorem allStations_nodup : allStations.Nodup := by decide
theorem mem_allSlots (i : SlotNo) : i ∈ allSlots := by decide +revert
theorem mem_allBarriers (b : BarrierNo) : b ∈ allBarriers := by decide +revert
theorem mem_allLocks (l : LockNo) : l ∈ allLocks := by decide +revert
theorem mem_allStations (t : Station) : t ∈ allStations := by decide +revert

/-! ## Runs of indications -/

section
variable (h : HostPort) (r : Indication) (rs qs : List Indication)

theorem HostPort.indicateAll_append : h.indicateAll (rs ++ qs) = (h.indicateAll rs).indicateAll qs :=
  List.foldl_append

/-- An indication leaves the local records and the queue as they are. -/
theorem HostPort.indicate_records (c : Vector ClaimRecord 32) (a : Vector ArrivalRecord 8) (w : Vector WatchSlot 4)
    (q : List Request) :
    HostPort.indicate r { h with claims := c, arrivals := a, watches := w, queue := q } =
      { h.indicate r with claims := c, arrivals := a, watches := w, queue := q } := by
  unfold HostPort.indicate
  split <;> rfl

theorem HostPort.indicateAll_records (c : Vector ClaimRecord 32) (a : Vector ArrivalRecord 8) (w : Vector WatchSlot 4)
    (q : List Request) :
    HostPort.indicateAll rs { h with claims := c, arrivals := a, watches := w, queue := q } =
      { h.indicateAll rs with claims := c, arrivals := a, watches := w, queue := q } := by
  induction rs generalizing h with
  | nil => rfl
  | cons r rs ih =>
    change HostPort.indicateAll rs (HostPort.indicate r _) = _
    rw [HostPort.indicate_records, ih]
    rfl

/-- A run of indications changes the indication queue and OVERRUN alone. -/
theorem HostPort.indicateAll_frame : h.indicateAll rs =
    { h with indications := (h.indicateAll rs).indications, overrun := (h.indicateAll rs).overrun } := by
  induction rs generalizing h with
  | nil => rfl
  | cons r rs ih =>
    have first : h.indicate r =
        { h with indications := (h.indicate r).indications, overrun := (h.indicate r).overrun } := by
      unfold HostPort.indicate; split <;> rfl
    change HostPort.indicateAll rs (h.indicate r) = { h with
      indications := (HostPort.indicateAll rs (h.indicate r)).indications
      overrun := (HostPort.indicateAll rs (h.indicate r)).overrun }
    rw [ih (h.indicate r)]
    rw [first]

@[simp] theorem HostPort.indicateAll_claims : (h.indicateAll rs).claims = h.claims :=
  congrArg (·.claims) (h.indicateAll_frame rs)
@[simp] theorem HostPort.indicateAll_arrivals : (h.indicateAll rs).arrivals = h.arrivals :=
  congrArg (·.arrivals) (h.indicateAll_frame rs)
@[simp] theorem HostPort.indicateAll_watches : (h.indicateAll rs).watches = h.watches :=
  congrArg (·.watches) (h.indicateAll_frame rs)
@[simp] theorem HostPort.indicateAll_queue : (h.indicateAll rs).queue = h.queue :=
  congrArg (·.queue) (h.indicateAll_frame rs)

end

/-- A run of indications queued. -/
def State.told (rs : List Indication) (s : State) : State := s.onHp (HostPort.indicateAll rs)

/-- The state with other watch slots. -/
def State.withWatches (w : Vector WatchSlot 4) (s : State) : State := s.onHp (fun h => { h with watches := w })

section
variable (s : State) (w : Vector WatchSlot 4)

theorem State.told_append (rs qs : List Indication) : s.told (rs ++ qs) = (s.told rs).told qs :=
  congrArg (fun h => ({ s with hp := h } : State)) (s.hp.indicateAll_append rs qs)

/-- The reports of one item more. -/
theorem State.told_reports_concat {α : Type} (m : α → Bool) (report : α → Indication) (done : List α) (a : α) :
    s.told (((done ++ [a]).filter m).map report) =
      if m a then (s.told ((done.filter m).map report)).indicate (report a) else s.told ((done.filter m).map report) := by
  cases hit : m a with
  | true =>
    have one : ((done ++ [a]).filter m).map report = (done.filter m).map report ++ [report a] := by simp [hit]
    rw [one, State.told_append]
    rfl
  | false => simp [hit]

theorem State.indicate_withWatches (r : Indication) : (s.withWatches w).indicate r = (s.indicate r).withWatches w := by
  by_cases room : s.hp.indications.length < Config.indicationCapacity <;>
    simp [State.withWatches, State.indicate, State.onHp, HostPort.indicate, room]

theorem State.setWatch_withWatches (i : SlotNo) (x : WatchSlot) :
    (s.withWatches w).setWatch i x = s.withWatches (w.set i x) := rfl

end

/-! ## The evaluation of the watches (R45) -/

/-- A slot matches at a change of some stations' words. -/
def State.slotMatches (changed : Station → Bool) (s : State) (i : SlotNo) : Bool :=
  (s.watch i).armed && changed (s.watch i).station && (s.watch i).holds (s.word (s.watch i).station)

/-- The report of a slot that matches. -/
def State.matchReport (s : State) (i : SlotNo) : Indication :=
  .watchMatched (s.watch i).tag (s.watch i).station (s.word (s.watch i).station)

/-- A slot after its evaluation: disarmed with tag 0 where it matches. -/
def WatchSlot.afterMatch (m : Bool) (w : WatchSlot) : WatchSlot := if m then { w with armed := false, tag := 0 } else w

/-- The slots of a list evaluated. -/
def State.evaluated (changed : Station → Bool) (s : State) (done : List SlotNo) : State :=
  (s.told ((done.filter (s.slotMatches changed)).map s.matchReport)).withWatches
    (recordsAfter s.watch (fun i => (s.watch i).afterMatch (s.slotMatches changed i)) done)

theorem State.evaluateWatch_evaluated (changed : Station → Bool) (s : State) (done : List SlotNo) (i : SlotNo)
    (fresh : i ∉ done) : (s.evaluated changed done).evaluateWatch changed i = s.evaluated changed (done ++ [i]) := by
  have slot : (s.evaluated changed done).watch i = s.watch i := recordsAfter_get fresh
  have word (t : Station) : (s.evaluated changed done).word t = s.word t := rfl
  have test : ((s.watch i).armed = true ∧ changed (s.watch i).station = true ∧
      (s.watch i).holds (s.word (s.watch i).station) = true) ↔ s.slotMatches changed i = true := by
    simp [State.slotMatches, and_assoc]
  have reports := s.told_reports_concat (s.slotMatches changed) s.matchReport done i
  simp only [State.evaluateWatch, State.matchWatch, slot, word, test]
  by_cases hit : s.slotMatches changed i = true
  · have disarmed : (s.watch i).afterMatch (s.slotMatches changed i) = { s.watch i with armed := false, tag := 0 } := by
      rw [hit]; rfl
    rw [if_pos hit] at reports ⊢
    rw [State.evaluated, State.evaluated, reports, ← recordsAfter_set, disarmed, State.indicate_withWatches,
      State.setWatch_withWatches]
    rfl
  · rw [if_neg hit] at reports ⊢
    rw [State.evaluated, State.evaluated, reports, recordsAfter_skip fresh (by simp [WatchSlot.afterMatch, hit])]

/-- The four slots evaluated in ascending number: the matching ones disarmed, and one report for each. -/
theorem State.evaluateWatches_eq (changed : Station → Bool) (s : State) : s.evaluateWatches changed =
    (s.told ((allSlots.filter (s.slotMatches changed)).map s.matchReport)).withWatches
      (Vector.ofFn (fun i => (s.watch i).afterMatch (s.slotMatches changed i))) := by
  have start : s.evaluated changed [] = s := by
    have same : recordsAfter s.watch (fun i => (s.watch i).afterMatch (s.slotMatches changed i)) [] = s.hp.watches :=
      recordsAfter_nil s.hp.watches _
    rw [State.evaluated, same]
    rfl
  have fold := foldl_eq_of_step (op := fun (t : State) i => t.evaluateWatch changed i) (after := s.evaluated changed)
    (fun done i fresh => s.evaluateWatch_evaluated changed done i fresh) allSlots_nodup
  rw [start] at fold
  rw [State.evaluateWatches, fold, State.evaluated, recordsAfter_all mem_allSlots]

/-! ## PUBLISH and POST beside the counting of a frame -/

section
variable (own : Bool) (f : Frame) (s : State)

@[simp] theorem State.word_concluded (t : Station) : (s.concluded own f).word t = s.word t := by cases own <;> rfl
@[simp] theorem State.watch_concluded (i : SlotNo) : (s.concluded own f).watch i = s.watch i := by cases own <;> rfl
@[simp] theorem State.standing_concluded (t : Station) : (s.concluded own f).standing t = s.standing t := by
  cases own <;> rfl
theorem State.standing_counted (t : Station) : (s.counted own f).standing t = s.standing t := rfl
theorem State.watch_counted (i : SlotNo) : (s.counted own f).watch i = s.watch i := by cases own <;> rfl

theorem State.concluded_setWord (t : Station) (v : Word16) :
    (s.setWord t v).concluded own f = (s.concluded own f).setWord t v := by cases own <;> rfl

theorem State.concluded_setWatch (i : SlotNo) (w : WatchSlot) :
    (s.setWatch i w).concluded own f = (s.concluded own f).setWatch i w := by cases own <;> rfl

theorem State.concluded_indicateIf (c : Bool) (r : Indication) :
    (s.indicateIf c r).concluded own f = (s.concluded own f).indicateIf c r := by
  cases c
  · rfl
  · exact s.concluded_indicate own f r

theorem State.concluded_evaluateWatch (changed : Station → Bool) (i : SlotNo) :
    (s.evaluateWatch changed i).concluded own f = (s.concluded own f).evaluateWatch changed i := by
  simp only [State.evaluateWatch, State.watch_concluded, State.word_concluded]
  split
  · simp only [State.matchWatch, State.concluded_setWatch, State.concluded_indicate, State.watch_concluded,
      State.word_concluded]
  · rfl

theorem State.concluded_evaluateWatches (changed : Station → Bool) :
    (s.evaluateWatches changed).concluded own f = (s.concluded own f).evaluateWatches changed := by
  simp only [State.evaluateWatches, allSlots, List.foldl_cons, List.foldl_nil, State.concluded_evaluateWatch]

theorem State.concluded_applyPublish (sender : Station) (sent : Bool) (tag : Octet) (v : Word16) :
    (s.applyPublish sender sent tag v).concluded own f = (s.concluded own f).applyPublish sender sent tag v := by
  simp only [State.applyPublish, State.concluded_evaluateWatches, State.concluded_indicateIf, State.concluded_setWord]

theorem State.concluded_applyPost (sender : Station) (sent : Bool) (tag : Octet) (target : Station) (k : Octet) :
    (s.applyPost sender sent tag target k).concluded own f =
      (s.concluded own f).applyPost sender sent tag target k := by
  simp only [State.applyPost, State.standing_concluded, State.concluded_me]
  split <;> simp only [State.concluded_indicateIf]

/-- A PUBLISH at a station that holds the word's part (R39): the word, PUBLISHED, then the slots that match. -/
theorem State.applyPublish_eq (sender : Station) (sent : Bool) (tag : Octet) (v : Word16) :
    let matched (i : SlotNo) : Bool := (s.watch i).armed && (s.watch i).station == sender && (s.watch i).holds v
    s.applyPublish sender sent tag v =
      { s with
        tu := { s.tu with words := s.tu.words.set sender v }
        hp := { s.hp.indicateAll ((if sent then [Indication.published tag v] else []) ++
            (allSlots.filter matched).map (fun i => Indication.watchMatched (s.watch i).tag sender v)) with
          watches := Vector.ofFn (fun i => (s.watch i).afterMatch (matched i)) } } := by
  intro matched
  have slot (i : SlotNo) : ((s.setWord sender v).indicateIf sent (.published tag v)).watch i = s.watch i := by
    cases sent
    · rfl
    · exact (s.setWord sender v).watch_indicate _ i
  have word : ((s.setWord sender v).indicateIf sent (.published tag v)).word sender = v := by
    have written : (s.setWord sender v).word sender = v := by rw [State.word_setWord, if_pos rfl]
    cases sent <;> exact written
  have test : ((s.setWord sender v).indicateIf sent (.published tag v)).slotMatches (· == sender) = matched := by
    funext i
    simp only [State.slotMatches, slot, matched]
    by_cases names : (s.watch i).station = sender
    · rw [names, word]
    · rw [beq_eq_false_iff_ne.mpr names]; simp
  have reports : (allSlots.filter matched).map
      ((s.setWord sender v).indicateIf sent (.published tag v)).matchReport =
      (allSlots.filter matched).map (fun i => Indication.watchMatched (s.watch i).tag sender v) := by
    refine List.map_congr_left fun i mem => ?_
    have names : (s.watch i).station = sender := by
      have hit := (List.mem_filter.mp mem).2
      simp only [matched, Bool.and_eq_true, beq_iff_eq] at hit
      exact hit.1.2
    simp only [State.matchReport, slot, names, word]
  rw [State.applyPublish, State.evaluateWatches_eq, test, reports]
  simp only [slot]
  rw [HostPort.indicateAll_append]
  cases sent <;> rfl

end

section
variable {own : Bool} {tag : Octet} {f : Frame} {s : State}

theorem exec_slotWindowEnd_publish {v : Word16} (h : s.hears own tag f = true) (body : f.body = .publish v) :
    exec (.slotWindowEnd .nothing) s = .next (if s.holdsPart (11 + f.sender.val / 8) then
      (s.counted own f).applyPublish f.sender own tag v else s.counted own f) := by
  refine exec_slotWindowEnd_of_effect (part := wordPart f.sender) h (by rw [body]; rfl) (fun t part0 member => ?_)
    (fun t => t.concluded_applyPublish own f f.sender own tag v)
  cases own <;> simp [State.applyFrame, body, part0, member, State.applyPublish, State.indicateIf]

theorem exec_slotWindowEnd_post {target : Station} {k : Octet} (h : s.hears own tag f = true)
    (body : f.body = .post target k) :
    exec (.slotWindowEnd .nothing) s = .next ((s.counted own f).applyPost f.sender own tag target k) := by
  obtain ⟨-, -, part0, -, -, -⟩ := State.hears_facts h
  have holds : s.hasInstalled 0 = true := part0
  have runs := exec_slotWindowEnd_of_effect (part := 0) (effect := fun t => t.applyPost f.sender own tag target k) h
    (by rw [body]; rfl) (fun t installed member => by
      cases own <;> simp [State.applyFrame, body, installed, member, State.applyPost, State.indicateIf])
    (fun t => t.concluded_applyPost own f f.sender own tag target k)
  rw [runs, if_pos holds]

end

/-- Settles O42: the step counts the PUBLISH and applies it where it holds the word's part. -/
theorem publishApplied : Obligations.PublishApplied := by
  intro own tag f s v h body
  dsimp only
  rw [exec_slotWindowEnd_publish h body]
  refine ⟨fun lacks => by rw [lacks]; rfl, fun holds => ?_⟩
  have effect := State.applyPublish_eq (s.counted own f) f.sender own tag v
  simp only [State.watch_counted] at effect
  rw [if_pos holds, effect]
  rfl

/-- Settles O43: the step counts the POST and applies it, which changes no part of the table. -/
theorem postApplied : Obligations.PostApplied := by
  intro own tag f s target k h body
  dsimp only
  rw [exec_slotWindowEnd_post h body]
  refine ⟨fun absent => ?_, fun listed => ?_⟩
  · rw [State.applyPost, if_pos (by rwa [State.standing_counted])]; rfl
  · rw [State.applyPost, if_neg (by rwa [State.standing_counted]), State.me_counted]; rfl

/-! ## CLAIM, case by case (R4, R5, R15) -/

section
variable {own : Bool} {sender : Station} {l : LockNo} {s : State} (tag : Octet) (v : Flavour)

theorem LockRecord.waiters_of_free {r : LockRecord} (h : r.lawful = true) (free : r.holder = none) : r.waiters = [] := by
  simp only [LockRecord.lawful, free, Bool.and_eq_true] at h
  exact List.isEmpty_iff.mp h.2

/-- A CLAIM of a free lock. -/
theorem State.applyClaim_of_free (lawful : (s.lock l).lawful = true) (free : (s.lock l).holder = none) :
    s.applyClaim sender own tag l v =
      ((s.setLock l ⟨some sender, []⟩).setClaimAt own l { s.claim l with phase := .held }).indicateAt own
        (.granted (s.claim l).tag l) := by
  cases own <;> simp [State.applyClaim, free, LockRecord.waiters_of_free lawful free, State.grantHere, State.setClaimAt,
    State.indicateAt]

/-- A CLAIM from the holder. -/
theorem State.applyClaim_of_holder (me : own = true ↔ sender = s.me) (holder : (s.lock l).holder = some sender) :
    s.applyClaim sender own tag l v = (s.setClaimAt own l { s.claim l with phase := .held }).indicateAt own
      (.refused tag .already (octetOfFin l) 0) := by
  cases own with
  | false => simp [State.applyClaim, holder, State.setClaimAt, State.indicateAt]
  | true =>
    obtain rfl := me.mp rfl
    simp [State.applyClaim, holder, State.claimFromReplica, State.setClaim_indicate, State.setClaimAt, State.indicateAt]

/-- A CLAIM from a waiter. -/
theorem State.applyClaim_of_waiter (me : own = true ↔ sender = s.me) (lawful : (s.lock l).lawful = true)
    (waits : sender ∈ (s.lock l).waiters) :
    s.applyClaim sender own tag l v = (s.setClaimAt own l { s.claim l with phase := (s.claim l).waitingPhase }).indicateAt
      own (.refused tag .already (octetOfFin l) 0) := by
  cases holder : (s.lock l).holder with
  | none => rw [LockRecord.waiters_of_free lawful holder] at waits; exact absurd waits List.not_mem_nil
  | some h =>
    have other : h ≠ sender := fun e => LockRecord.holder_not_waiting lawful holder (e ▸ waits)
    cases own with
    | false => simp [State.applyClaim, holder, waits, State.setClaimAt, State.indicateAt]
    | true =>
      obtain rfl := me.mp rfl
      simp [State.applyClaim, holder, waits, other, State.claimFromReplica, State.setClaim_indicate, State.setClaimAt,
        State.indicateAt]

/-- A CLAIM with the flavour WAIT from a station that neither holds nor waits. -/
theorem State.applyClaim_of_wait {h : Station} (holder : (s.lock l).holder = some h) (other : h ≠ sender)
    (waits : sender ∉ (s.lock l).waiters) :
    s.applyClaim sender own tag l .wait =
      ((s.setLock l ⟨some h, (s.lock l).waiters ++ [sender]⟩).setClaimAt own l
        { s.claim l with phase := (s.claim l).waitingPhase }).indicateAt own
        (.waiting tag l ((s.lock l).waiters.length + 1)) := by
  cases own <;> simp [State.applyClaim, holder, waits, other, State.setClaimAt, State.indicateAt]

/-- A CLAIM with the flavour TRY from a station that neither holds nor waits. -/
theorem State.applyClaim_of_try {h : Station} (holder : (s.lock l).holder = some h) (other : h ≠ sender)
    (waits : sender ∉ (s.lock l).waiters) :
    s.applyClaim sender own tag l .tryOnce =
      (s.setClaimAt own l (s.claim l).ended).indicateAt own (.notGranted tag l (some h)) := by
  cases own <;> simp [State.applyClaim, holder, waits, other, State.setClaimAt, State.indicateAt]

end

theorem State.concluded_applyClaim (own : Bool) (f : Frame) (s : State) (sender : Station) (sent : Bool) (tag : Octet)
    (l : LockNo) (v : Flavour) :
    (s.applyClaim sender sent tag l v).concluded own f = (s.concluded own f).applyClaim sender sent tag l v := by
  simp only [State.applyClaim, State.lock_concluded, State.claim_concluded]
  split
  · split <;> simp only [State.concluded_grantHere, State.concluded_setLock]
  · split
    · split <;> simp only [State.concluded_indicate, State.concluded_claimFromReplica]
    · split <;> split <;>
        simp only [State.concluded_indicate, State.concluded_setClaim, State.concluded_setLock, State.claim_setLock,
          State.claim_concluded]

theorem exec_slotWindowEnd_claim {own : Bool} {tag : Octet} {f : Frame} {s : State} {l : LockNo} {v : Flavour}
    (h : s.hears own tag f = true) (body : f.body = .claim l v) :
    exec (.slotWindowEnd .nothing) s = .next (if s.holdsPart (1 + l.val / 4) then
      (s.counted own f).applyClaim f.sender own tag l v else s.counted own f) := by
  refine exec_slotWindowEnd_of_effect (part := lockPart l) h (by rw [body]; rfl) (fun t part0 member => ?_)
    (fun t => t.concluded_applyClaim own f f.sender own tag l v)
  cases own <;> simp [State.applyFrame, body, part0, member, State.applyClaim]

/-- Settles O37: the step counts the CLAIM and applies it, and each clause is one case of its effect. -/
theorem claimApplied : Obligations.ClaimApplied := by
  intro own tag f s l v h body
  dsimp only
  obtain ⟨-, -, -, me, -, -⟩ := State.hears_facts h
  rw [← State.me_counted own f s] at me
  rw [exec_slotWindowEnd_claim h body, ← State.claim_counted own f s l, ← State.lock_counted own f s l]
  refine ⟨fun lacks => by rw [lacks]; rfl, fun holds lawful => ?_⟩
  rw [if_pos holds]
  refine ⟨fun free => ?_, fun holder => ?_, fun waits => ?_, fun x holder other waits =>
    ⟨fun wait => ?_, fun once => ?_⟩⟩
  · rw [State.applyClaim_of_free tag v lawful free]
  · rw [State.applyClaim_of_holder tag v me holder]; rfl
  · rw [State.applyClaim_of_waiter tag v me lawful waits]; rfl
  · rw [wait, State.applyClaim_of_wait tag holder other waits]; rfl
  · rw [once, State.applyClaim_of_try tag holder other waits]; rfl

/-! ## ARRIVE, case by case (R26, R27, R35) -/

theorem hasStation_addStation (set : StationSet) (t k : Station) :
    hasStation (addStation set t) k = (hasStation set k || decide (k = t)) := by
  simp [hasStation, addStation, Fin.ext_iff, eq_comm]

section
variable {own : Bool} {sender : Station} {b : BarrierNo} {count : Nat} {s : State} (tag : Octet)

/-- An ARRIVE of a station that has arrived. -/
theorem State.applyArrive_of_arrived (arrived : hasStation (s.barrier b).arrived sender = true) :
    s.applyArrive sender own tag b count =
      (s.setArrivalAt own b ((s.arrival b).settled (s.barrier b).generation)).indicateAt own
        (.refused tag .already (octetOfFin b) 0) := by
  simp only [State.applyArrive, if_pos arrived]
  cases own with
  | false => rfl
  | true => exact s.setArrival_indicate b _ _

/-- The first arrival at a barrier. -/
theorem State.applyArrive_of_first (fresh : hasStation (s.barrier b).arrived sender = false)
    (idle : (s.barrier b).partyCount = 0) :
    s.applyArrive sender own tag b count =
      ((s.setBarrier b ⟨(s.barrier b).generation, count, addStation 0 sender⟩).setArrivalAt own b
        ((s.arrival b).settled (s.barrier b).generation)).indicateAt own
        (.arrived tag b (s.barrier b).generation 1) := by
  simp only [State.applyArrive, fresh, idle, if_true]
  cases own with
  | false => rfl
  | true => exact State.setArrival_indicate _ b _ _

/-- An ARRIVE with another party count. -/
theorem State.applyArrive_of_mismatch (fresh : hasStation (s.barrier b).arrived sender = false)
    (waiting : (s.barrier b).partyCount ≠ 0) (mismatch : count ≠ (s.barrier b).partyCount) :
    s.applyArrive sender own tag b count = (s.setArrivalAt own b noArrival).indicateAt own
      (.refused tag .mismatch (octetOfFin b) (octetOf (s.barrier b).partyCount)) := by
  simp only [State.applyArrive, fresh, if_neg waiting, if_pos mismatch]
  cases own with
  | false => rfl
  | true => exact s.setArrival_indicate b _ _

/-- A further arrival that does not complete the party. -/
theorem State.applyArrive_of_further (fresh : hasStation (s.barrier b).arrived sender = false)
    (waiting : (s.barrier b).partyCount ≠ 0) (agrees : count = (s.barrier b).partyCount)
    (more : stationCount (addStation (s.barrier b).arrived sender) ≠ (s.barrier b).partyCount) :
    s.applyArrive sender own tag b count =
      ((s.setBarrier b ⟨(s.barrier b).generation, (s.barrier b).partyCount,
        addStation (s.barrier b).arrived sender⟩).setArrivalAt own b
        ((s.arrival b).settled (s.barrier b).generation)).indicateAt own
        (.arrived tag b (s.barrier b).generation (stationCount (addStation (s.barrier b).arrived sender))) := by
  simp only [State.applyArrive, fresh, if_neg waiting, if_neg (not_not.mpr agrees), if_neg more]
  cases own with
  | false => rfl
  | true => exact State.setArrival_indicate _ b _ _

/-- The arrival that completes the party opens the barrier. -/
theorem State.applyArrive_of_opening (fresh : hasStation (s.barrier b).arrived sender = false)
    (waiting : (s.barrier b).partyCount ≠ 0) (agrees : count = (s.barrier b).partyCount)
    (complete : stationCount (addStation (s.barrier b).arrived sender) = (s.barrier b).partyCount) :
    s.applyArrive sender own tag b count =
      if hasStation (addStation (s.barrier b).arrived sender) s.me then
        (s.setBarrier b (s.barrier b).nextUse).openHere own b (s.barrier b).generation (s.barrier b).partyCount
      else s.setBarrier b (s.barrier b).nextUse := by
  simp only [State.applyArrive, fresh, if_neg waiting, if_neg (not_not.mpr agrees), if_pos complete]
  rfl

end

/-- BARRIER OPEN at a station whose record it ends (R27, R35, R36). -/
theorem State.openHere_of_ends {own : Bool} {b : BarrierNo} {s : State} (g : Octet) (n : Nat)
    (ends : own = true ∨ (s.arrival b).phase = .arrived ∨ (s.arrival b).phase = .abandonQueued) :
    s.openHere own b g n = (s.setArrival b noArrival).indicate (.barrierOpen (s.arrival b).tag b g n) := by
  simp only [State.openHere, if_pos ends]
  exact s.setArrival_indicate b _ _

theorem State.concluded_openHere (own : Bool) (f : Frame) (s : State) (sent : Bool) (b : BarrierNo) (g : Octet)
    (n : Nat) : (s.openHere sent b g n).concluded own f = (s.concluded own f).openHere sent b g n := by
  simp only [State.openHere, State.arrival_concluded]
  split <;> simp only [State.concluded_setArrival, State.concluded_indicate]

theorem State.concluded_applyArrive (own : Bool) (f : Frame) (s : State) (sender : Station) (sent : Bool) (tag : Octet)
    (b : BarrierNo) (count : Nat) :
    (s.applyArrive sender sent tag b count).concluded own f =
      (s.concluded own f).applyArrive sender sent tag b count := by
  simp only [State.applyArrive, State.barrier_concluded, State.arrival_concluded, State.concluded_me,
    apply_ite (State.concluded own f), State.concluded_setArrival, State.concluded_indicate, State.concluded_setBarrier,
    State.concluded_openHere]

theorem exec_slotWindowEnd_arrive {own : Bool} {tag : Octet} {f : Frame} {s : State} {b : BarrierNo} {count : Nat}
    (h : s.hears own tag f = true) (body : f.body = .arrive b count) :
    exec (.slotWindowEnd .nothing) s = .next (if s.holdsPart (9 + b.val / 4) then
      (s.counted own f).applyArrive f.sender own tag b count else s.counted own f) := by
  refine exec_slotWindowEnd_of_effect (part := barrierPart b) h (by rw [body]; rfl) (fun t part0 member => ?_)
    (fun t => t.concluded_applyArrive own f f.sender own tag b count)
  cases own <;> simp [State.applyFrame, body, part0, member, State.applyArrive]

/-- Settles O40: the step counts the ARRIVE and applies it, and each clause is one case of its effect. -/
theorem arriveApplied : Obligations.ArriveApplied := by
  intro own tag f s b count h body
  dsimp only
  obtain ⟨-, -, -, me, -, -⟩ := State.hears_facts h
  rw [exec_slotWindowEnd_arrive h body, ← State.barrier_counted own f s b, ← State.arrival_counted own f s b]
  refine ⟨fun lacks => by rw [lacks]; rfl, fun holds => ?_⟩
  rw [if_pos holds]
  refine ⟨fun arrived => ?_, fun fresh => ⟨fun idle => ?_, fun waiting mismatch => ?_, fun waiting agrees =>
    ⟨fun more => ?_, fun complete => ⟨fun elsewhere => ?_, fun here => ?_⟩⟩⟩⟩
  · rw [State.applyArrive_of_arrived tag arrived]; rfl
  · have first : addStation 0 f.sender = BitVec.twoPow 16 f.sender.val := BitVec.zero_or
    rw [State.applyArrive_of_first tag fresh idle, first]; rfl
  · rw [State.applyArrive_of_mismatch tag fresh waiting mismatch]; rfl
  · rw [State.applyArrive_of_further tag fresh waiting agrees more]; rfl
  · rw [State.applyArrive_of_opening tag fresh waiting agrees complete]
    exact congrArg _ (if_neg (by rw [Bool.not_eq_true]; exact elsewhere))
  · have inSet : hasStation (addStation ((s.counted own f).barrier b).arrived f.sender) (s.counted own f).me = true := by
      rcases here with rfl | ⟨inSet, -⟩
      · rw [hasStation_addStation, State.me_counted, me.mp rfl]; simp
      · exact inSet
    rw [State.applyArrive_of_opening tag fresh waiting agrees complete, if_pos inSet]
    exact congrArg _ (State.openHere_of_ends (s := (s.counted own f).setBarrier b _) _ _ (here.imp_right And.right))

end Sys2Proof.Machine
end

section
/-!
SUPPORT. The handling of an accepted frame (R87) in every station state: the peer's frame that is tracked, the frame out of
step, and the frames that enter a station state. Then the statements on tracked and out-of-step frames, on PORT CONTROL,
on the own JOIN, and on LEAVE and EVICT.
-/

namespace Sys2Proof.Machine

/-! ## The steps of R87, one by one -/

section
variable (s : State) (f : Frame) (own : Bool) (tag : Octet)

/-- A peer's frame changes the station's own state only as an EVICT of the station (R56). -/
theorem State.takeNamed_peer : s.takeNamed false tag f =
    if f.body = .evict s.me ∧ s.takesEvict f.sender = true then s.enterOutside .evicted 0 else s := by
  unfold State.takeNamed
  cases f.body <;> simp

theorem State.takeNamed_of_not_evict (h : f.body ≠ .evict s.me) : s.takeNamed false tag f = s := by
  rw [s.takeNamed_peer f tag, if_neg fun both => h both.1]

@[simp] theorem State.hearPresence_peer : s.hearPresence false = s := rfl

variable {s f}

theorem State.hearSilence_of_not_inStep (h : s.station ≠ .inStep) (t : Station) : s.hearSilence t = s :=
  if_neg fun all => h all.1

theorem State.hearTransfer_of_not_snapshot (h : f.body.isSnapshot = false) : s.hearTransfer f = s := by
  unfold State.hearTransfer
  cases b : f.body <;> simp_all [FrameBody.isSnapshot]

theorem State.hearTransfer_of_not_joining (h : s.station ≠ .joining) : s.hearTransfer f = s := by
  unfold State.hearTransfer
  cases f.body <;> simp [h]

theorem State.hearTransfer_of_snapshot {content : PartContent} (body : f.body = .snapshot content)
    (h : s.station = .joining) :
    s.hearTransfer f = { s with mc := { s.mc with transfer := .running 32768 } } := by
  simp [State.hearTransfer, body, h, State.onMc, Config.lossTimeout]

/-- A station outside the cluster, or DIVERGED, restarts no timer. -/
theorem State.hear_of_apart (apart : s.station ≠ .inStep ∧ s.station ≠ .joining) : s.hear own f = s := by
  have silent : s.hearSilence f.sender = s := State.hearSilence_of_not_inStep apart.1 _
  have still : s.hearPresence own = s := if_neg fun all => all.2.elim apart.2 apart.1
  rw [State.hear, silent, still, State.hearTransfer_of_not_joining apart.2]

/-- A JOINING station restarts no timer at a peer's frame that is no SNAPSHOT. -/
theorem State.hear_peer_of_not_snapshot (station : s.station ≠ .inStep) (body : f.body.isSnapshot = false) :
    s.hear false f = s := by
  rw [State.hear, State.hearSilence_of_not_inStep station, State.hearPresence_peer,
    State.hearTransfer_of_not_snapshot body]

variable (s f)

/-- A frame in hand that changed the station state is not applied. -/
theorem State.applyStep_of_left {c : Counting} {before : StationState} (left : s.station ≠ before) :
    s.applyStep c before own tag f = s := if_neg left

theorem State.applyStep_of_track {before : StationState} (body : s.station = .joining → f.body.isSnapshot = false) :
    s.applyStep .track before own tag f = s := by
  unfold State.applyStep
  cases b : f.body <;> simp_all [FrameBody.isSnapshot]
  exact fun stays joining => absurd (stays.trans joining) body

end

/-! ## A peer's frame in hand -/

/-- The slot ended, and the cluster known: what the counting of a peer's frame meets. -/
def State.met (s : State) : State := s.endSlot.setClusterKnown true

/-- The order number and the order hold as the count of a frame leaves them, on an entry into a station state. -/
theorem State.countOrder_outsideBy (f : Frame) (s : State) (cause : Cause) (tag : Octet) (n : Nat) :
    (s.outsideBy cause tag n).countOrder f = (s.countOrder f).outsideBy cause tag n := rfl

theorem State.countOrder_divergedBy (f : Frame) (s : State) (cause : Cause) :
    (s.divergedBy cause).countOrder f = (s.countOrder f).divergedBy cause := rfl

/-- A frame that a station outside the cluster or DIVERGED, or a JOINING one with no part, only tracks. -/
theorem State.handAccepted_of_track {s : State} {f : Frame} (counting : s.met.counting f = .track)
    (named : s.met.takeNamed false 0 f = s.met)
    (apart : s.station ≠ .inStep ∧ (s.station = .joining → f.body.isSnapshot = false)) :
    s.endSlot.handAccepted false f = s.tracked f := by
  have heard : s.met.hear false f = s.met := by
    by_cases joining : s.station = .joining
    · exact State.hear_peer_of_not_snapshot apart.1 (apart.2 joining)
    · exact State.hear_of_apart false ⟨apart.1, joining⟩
  calc s.endSlot.handAccepted false f
      = (((s.met.takeOwnState (s.met.counting f) false 0 f).hear false f).applyStep (s.met.counting f) s.met.station
          false 0 f).countOrder f := rfl
    _ = s.met.countOrder f := by
      rw [counting, State.takeOwnState, named, heard, State.applyStep_of_track s.met f _ _ apart.2]
    _ = s.tracked f := rfl

/-- The states that track every frame. -/
theorem State.counting_of_tracks {s : State} (f : Frame) (h : s.station = .watch ∨ s.station = .outside ∨
    s.station = .diverged ∨ (s.station = .joining ∧ s.tu.installed = 0)) : s.counting f = .track := by
  rcases h with h | h | h | ⟨h, none⟩ <;> simp [State.counting, h]
  exact fun part => absurd none part

/-- A station that drives no objection to a peer's frame takes what the classification leaves in hand. -/
theorem exec_slotWindowEnd_of_unobjected {h : HeardFrame} {s : State} (slot : s.inSlotOf h = true)
    (silent : h.objection = .none) :
    exec (.slotWindowEnd .nothing) s = .next (s.endSlot.acceptFrame h.own h.classification.hand) := by
  rw [exec_slotWindowEnd_of_heard slot, if_neg fun both => both.1 silent]
  rfl

/-- A frame that is not a duplicate station's is handled. -/
theorem State.acceptFrame_of_peer {s : State} {f : Frame} (h : f.sender ≠ s.me ∨ s.station = .watch) :
    s.acceptFrame false (some f) = s.handAccepted false f := by
  refine if_neg fun ⟨tests, sender, _⟩ => ?_
  rcases h with other | watch
  · exact other sender
  · rw [watch] at tests; exact Bool.false_ne_true tests

theorem State.acceptFrame_own (f : Frame) (s : State) : s.acceptFrame true (some f) = s.handAccepted true f :=
  if_neg fun ⟨_, _, peer⟩ => Bool.false_ne_true peer

/-- A peer's good frame is handled. -/
theorem exec_slotWindowEnd_of_peer {s : State} {f : Frame} (slot : s.inSlotOf ⟨.good f, .none, false⟩ = true)
    (other : f.sender ≠ s.me) : exec (.slotWindowEnd .nothing) s = .next (s.endSlot.handAccepted false f) :=
  exec_slotWindowEnd_accepted slot (by simpa using other)

/-- An attempt whose item was taken away has no request to settle. -/
theorem State.requestInAttempt_of_none {s : State} {f : Frame} (attempt : s.ss.attempt = some ⟨f, none⟩)
    (consistent : s.attemptConsistent = true) : s.requestInAttempt = none ∧ s.unmarkedQueue = s.hp.queue := by
  simp only [State.attemptConsistent, attempt, Bool.and_eq_true] at consistent
  have unmarked : ∀ r ∈ s.hp.queue, r.inAttempt = false := by simpa using consistent.2
  refine ⟨?_, map_unmarked unmarked⟩
  exact List.find?_eq_none.mpr fun r mem => by simp [unmarked r mem]

/-- Settles O35: every such frame is counted to be tracked, and its body changes nothing. -/
theorem acceptedFrameTracked : Obligations.AcceptedFrameTracked := by
  refine ⟨fun s h slot peer silent => ⟨fun f good sender tracks => ?_, fun lost => ?_⟩,
    fun s f slot outside attempt consistent body => ?_⟩
  · rw [exec_slotWindowEnd_of_unobjected slot silent, peer, good]
    refine congrArg _ ((State.acceptFrame_of_peer (s := s.endSlot) sender).trans ?_)
    have named : s.met.takeNamed false 0 f = s.met := by
      rw [State.takeNamed_peer]
      refine if_neg fun ⟨evict, takes⟩ => ?_
      have stands : s.met.station = s.station := rfl
      rcases tracks with watch | outside | ⟨-, other⟩ | ⟨-, -, other, -⟩
      · simp [State.takesEvict, stands, watch] at takes
      · simp [State.takesEvict, stands, outside] at takes
      · exact other evict
      · exact other evict
    have counting : s.met.counting f = .track := State.counting_of_tracks (s := s.met) f
      (tracks.imp_right (Or.imp_right (Or.imp And.left fun both => ⟨both.1, both.2.1⟩)))
    refine State.handAccepted_of_track counting named ?_
    rcases tracks with e | e | ⟨e, -⟩ | ⟨e, -, -, body⟩ <;> simp [e]
    exact body
  · rw [exec_slotWindowEnd_of_unobjected slot silent]
    rcases lost with e | e <;> rw [e] <;> rfl
  · obtain ⟨noRequest, unmarked⟩ := State.requestInAttempt_of_none attempt consistent
    have noneHere : s.endSlot.requestInAttempt = none := noRequest
    have marked : s.endSlot.attemptMarked = false := by rw [State.attemptMarked, noneHere]
    have settled : s.endSlot.settleRequest = s.endSlot := by rw [State.settleRequest, noneHere]
    have named (t : Octet) : s.met.takeNamed true t f = s.met := by
      have apart : s.met.station = .outside := outside
      rcases body with e | e <;> simp [State.takeNamed, e, apart, StationState.hasStake]
    have counting : s.met.counting f = .track := State.counting_of_tracks (s := s.met) f (.inr (.inl outside))
    have apart : s.met.station ≠ .inStep ∧ s.met.station ≠ .joining := by
      rw [show s.met.station = .outside from outside]; decide
    rw [exec_slotWindowEnd_of_unobjected slot rfl]
    refine congrArg _ ((State.acceptFrame_own f s.endSlot).trans ?_)
    have handled : s.endSlot.handAccepted true f = s.met.concluded true f := by
      unfold State.met at named counting apart ⊢
      simp only [State.handAccepted, marked, Bool.and_false, settled, if_true, counting, State.takeOwnState, named,
        State.hear_of_apart true apart, State.applyStep_of_track _ f true _ (fun j => absurd j apart.2)]
      rfl
    rw [handled, State.concluded_own]
    exact congrArg (fun q => { s.tracked f with
      le := { s.le with line := .idle, gapCount := 0, rxBits := [], yieldFlag := true }
      ss := ⟨none, none, 0⟩, hp := { s.hp with queue := q } }) unmarked

/-- A peer's frame that changes the station state to one that restarts no timer has no further effect (R87 step 7). -/
theorem State.handAccepted_of_left {s t : State} {f : Frame}
    (taken : s.met.takeOwnState (s.met.counting f) false 0 f = t)
    (apart : t.station = .diverged ∨ t.station = .outside) (left : t.station ≠ s.station) :
    s.endSlot.handAccepted false f = t.countOrder f := by
  have silent : t.station ≠ .inStep ∧ t.station ≠ .joining := by rcases apart with e | e <;> rw [e] <;> decide
  calc s.endSlot.handAccepted false f
      = (((s.met.takeOwnState (s.met.counting f) false 0 f).hear false f).applyStep (s.met.counting f) s.met.station
          false 0 f).countOrder f := rfl
    _ = t.countOrder f := by
      rw [taken, State.hear_of_apart false silent]
      exact congrArg _ (State.applyStep_of_left _ _ _ _ left)

/-- The count of a frame at an IN STEP station whose number is not the frame's (R83). -/
theorem State.counting_of_unequal {s : State} {f : Frame} (station : s.station = .inStep) (unequal : f.order ≠ s.au.order) :
    s.counting f = .diverge := by
  rw [State.counting, station]
  exact if_neg unequal

/-- An unequal frame at an IN STEP station takes it to DIVERGED before its body is looked at (R87 step 5). -/
theorem State.takeOwnState_of_ahead {s : State} {f : Frame} (station : s.station = .inStep)
    (ahead : 1 ≤ (f.order - s.au.order).toNat) :
    s.met.takeOwnState (s.met.counting f) false 0 f = (s.met.divergedBy .aheadFrame).takeNamed false 0 f := by
  have unequal : f.order ≠ s.au.order := fun e => by simp [e] at ahead
  rw [State.counting_of_unequal (s := s.met) station unequal]
  rfl

/-- Settles O36: the number adopted is counted after the entry into the new state. -/
theorem outOfStepFrame : Obligations.OutOfStepFrame := by
  refine ⟨fun s f slot other station ahead _ body => ?_, fun s f slot other station part apart => ?_⟩
  · refine (exec_slotWindowEnd_of_peer slot other).trans (congrArg _ ?_)
    have taken := State.takeOwnState_of_ahead station ahead
    rw [State.takeNamed_of_not_evict (s.met.divergedBy .aheadFrame) f 0 body] at taken
    exact State.handAccepted_of_left taken (.inl rfl) (by rw [station]; exact (by decide : StationState.diverged ≠ .inStep))
  · refine (exec_slotWindowEnd_of_peer slot other).trans (congrArg _ ?_)
    have counting : s.met.counting f = .leaveCluster := by
      have stands : s.met.station = .joining := station
      rw [State.counting, stands]
      exact (if_neg part).trans (if_neg apart)
    have taken : s.met.takeOwnState (s.met.counting f) false 0 f =
        s.met.outsideBy .aheadFrame s.leaveTag s.discardedBesideLeave := by
      rw [counting, State.takeOwnState, State.leaveClusterFor_eq]
      rfl
    exact State.handAccepted_of_left taken (.inr rfl) (by rw [station]; exact (by decide : StationState.outside ≠ .joining))

/-! ## PORT CONTROL (R132, R172) -/

/-- The slot end of a frame that a port restart left in hand, at a WATCH station (log 27). -/
theorem State.closeSlot_after_restart {s : State} {f : Frame} (watch : s.station = .watch) (line : s.le.line = .idle)
    (gap : s.le.gapCount = 0) (heard : s.au.heard = some ⟨.good f, .none, false⟩) :
    s.closeSlot .nothing = s.tracked f := by
  have runs : s.slotRuns = true := by simp [State.slotRuns, watch, line, gap, heard]
  have closes : s.closeSlot .nothing = s.endSlot.acceptFrame false (some f) := by
    rw [State.closeSlot, if_pos runs, heard]
    rfl
  have stands : s.met.station = .watch := watch
  refine closes.trans ((State.acceptFrame_of_peer (s := s.endSlot) (.inr watch)).trans ?_)
  refine State.handAccepted_of_track (State.counting_of_tracks (s := s.met) f (.inl watch)) ?_
    ⟨by rw [watch]; decide, fun joining => by rw [watch] at joining; cases joining⟩
  rw [State.takeNamed_peer]
  exact if_neg fun both => by simp [State.takesEvict, stands] at both

/-- Settles O5: the three rows are one write, and the frame held through a restart is tracked. -/
theorem portControlWritten : Obligations.PortControlWritten := by
  refine ⟨fun o s released restart => ⟨?_, fun h slot f good => ?_⟩, fun o s released stays => ?_⟩
  · refine congrArg _ ((State.unlessReset_of_false released _).trans ?_)
    rw [State.portControl, controlRestart, if_pos restart]
    rfl
  · obtain ⟨-, line, heard⟩ := (s.inSlotOf_iff h).mp slot
    refine congrArg _ ((State.unlessReset_of_false rfl _).trans ?_)
    refine (State.closeSlot_after_restart (f := f) rfl rfl rfl ?_).trans rfl
    rw [if_pos line, heard, ← good]
    rfl
  · have written : s.portControl o = { s with hp := { s.hp with
        overrun := !o.getLsbD 1 && s.hp.overrun, readPos := if o.getLsbD 2 then 0 else s.hp.readPos } } := by
      rw [State.portControl, controlRestart, controlClearOverrun, controlRewind, if_neg (by rw [stays]; decide)]
      cases o.getLsbD 1 <;> cases o.getLsbD 2 <;> rfl
    have same : s.unlessReset (State.portControl o) = _ := (State.unlessReset_of_false released _).trans written
    exact ⟨congrArg _ same, congrArg _ same, congrArg _ same⟩

/-! ## An own frame in hand (R119) -/

/-- The tag of the request an item is, 0 for a duty. -/
def Item.requestTag : Item → Octet
  | .request tag => tag
  | .evict _ => 0
  | .resync => 0
  | .snapshot => 0
  | .presence => 0

theorem Item.requestTag_of_duty {i : Item} (duty : ∀ tag, i ≠ .request tag) : i.requestTag = 0 := by
  cases i with
  | request tag => exact absurd rfl (duty tag)
  | evict t => rfl
  | resync => rfl
  | snapshot => rfl
  | presence => rfl

section
variable {s : State} {f : Frame} {i : Item}

/-- No request is in attempt while a duty is. -/
theorem State.unmarked_of_inHand (duty : ∀ tag, i ≠ .request tag) (hand : s.inHand i = true) :
    ∀ r ∈ s.hp.queue, r.inAttempt = false := by
  cases i with
  | request tag => exact absurd rfl (duty tag)
  | evict t => simpa [State.inHand] using hand
  | resync => simpa [State.inHand] using hand
  | snapshot => simpa [State.inHand] using hand
  | presence => simpa [State.inHand] using hand

theorem State.settledQueue_of_duty (duty : ∀ tag, i ≠ .request tag) (attempt : s.ss.attempt = some ⟨f, some i⟩) :
    s.settledQueue = s.hp.queue := by
  cases i with
  | request tag => exact absurd rfl (duty tag)
  | evict t => simp [State.settledQueue, attempt]
  | resync => simp [State.settledQueue, attempt]
  | snapshot => simp [State.settledQueue, attempt]
  | presence => simp [State.settledQueue, attempt]

theorem State.requestInAttempt_of_duty (duty : ∀ tag, i ≠ .request tag) (hand : s.inHand i = true) :
    s.requestInAttempt = none :=
  List.find?_eq_none.mpr fun r mem => by simp [State.unmarked_of_inHand duty hand r mem]

/-- The attempt of an item in hand has its request's tag, and no cancel mark. -/
theorem State.attempt_of_hand (hand : s.inHand i = true) : s.attemptMarked = false ∧ s.attemptTag = i.requestTag := by
  by_cases request : ∃ tag, i = .request tag
  · obtain ⟨tag, rfl⟩ := request
    exact State.attempt_of_inHand hand
  · have none := State.requestInAttempt_of_duty (fun tag e => request ⟨tag, e⟩) hand
    have untagged := Item.requestTag_of_duty fun tag e => request ⟨tag, e⟩
    simp [State.attemptMarked, State.attemptTag, none, untagged]

/-- An own frame's request leaves the queue, whatever item the frame was built for. -/
theorem State.settledBy_of_hand (attempt : s.ss.attempt = some ⟨f, some i⟩) (counted : s.ss.counted = some i)
    (hand : s.inHand i = true) : ∃ ss, s.endSlot.settledBy true =
      { s.met with ss := ss, hp := { s.hp with queue := s.settledQueue } } := by
  by_cases request : ∃ tag, i = .request tag
  · obtain ⟨tag, rfl⟩ := request
    refine ⟨{ s.ss with counted := none, counter := 0 }, ?_⟩
    rw [State.settledBy, if_pos rfl, State.settleRequest_eq (s := s.endSlot) hand counted, State.settledQueue_eq attempt]
    rfl
  · have duty : ∀ tag, i ≠ .request tag := fun tag e => request ⟨tag, e⟩
    have none : s.endSlot.requestInAttempt = none := State.requestInAttempt_of_duty (s := s) duty hand
    refine ⟨s.ss, ?_⟩
    rw [State.settledBy, if_pos rfl, State.settleRequest, none, State.settledQueue_of_duty duty attempt]
    rfl

/-- No request in what is left of the queue is in attempt. -/
theorem State.unmarked_settledQueue (attempt : s.ss.attempt = some ⟨f, some i⟩) (hand : s.inHand i = true)
    (lawful : s.requestsLawful = true ∨ ∀ tag, i ≠ .request tag) :
    s.settledQueue.map (fun r => { r with inAttempt := false }) = s.settledQueue := by
  by_cases request : ∃ tag, i = .request tag
  · obtain ⟨tag, rfl⟩ := request
    rw [State.settledQueue_eq attempt]
    exact State.unmarked_tail (lawful.resolve_right fun duty => duty tag rfl)
  · have duty : ∀ tag, i ≠ .request tag := fun tag e => request ⟨tag, e⟩
    rw [State.settledQueue_of_duty duty attempt]
    exact map_unmarked (State.unmarked_of_inHand duty hand)

/-- The handling of an own frame, whose request has no cancel mark. -/
theorem State.handAccepted_own (hand : s.inHand i = true) :
    s.endSlot.handAccepted true f =
      ((((s.endSlot.settledBy true).takeOwnState ((s.endSlot.settledBy true).counting f) true i.requestTag f).hear true
        f).applyStep ((s.endSlot.settledBy true).counting f) (s.endSlot.settledBy true).station true i.requestTag
          f).concluded true f := by
  obtain ⟨marked, tagged⟩ := State.attempt_of_hand (s := s.endSlot) hand
  simp only [State.handAccepted, marked, tagged]
  rfl

/-- A sender in the cluster restarts its presence timer, and no other at a frame that is no SNAPSHOT or outside JOINING. -/
theorem State.hear_sender (sender : f.sender = s.me) (station : s.station = .joining ∨ s.station = .inStep)
    (other : f.body.isSnapshot = false ∨ s.station ≠ .joining) :
    s.hear true f = { s with mc := { s.mc with presence := .running 4096 } } := by
  have silent : s.hearSilence f.sender = s := if_neg fun all => all.2.1 sender
  have present : s.hearPresence true = { s with mc := { s.mc with presence := .running 4096 } } := if_pos ⟨rfl, station⟩
  rw [State.hear, silent, present]
  rcases other with body | stays
  · exact State.hearTransfer_of_not_snapshot body
  · exact State.hearTransfer_of_not_joining stays

end

/-! ## The silence timers at the entry into IN STEP (R124) -/

/-- One silence timer runs for every other station in the roster. -/
theorem State.startSilence_eq (s : State) : s.startSilence =
    Vector.ofFn (fun t : Station => if t ≠ s.me ∧ s.standing t ≠ .absent then .running 32768 else .cleared) := by
  have fold := foldl_eq_of_step
    (op := fun (v : Vector Timer 16) (t : Station) =>
      if t ≠ s.me ∧ s.standing t ≠ .absent then v.set t (.running Config.lossTimeout) else v)
    (after := recordsAfter (fun _ => .cleared)
      (fun t => if t ≠ s.me ∧ s.standing t ≠ .absent then .running Config.lossTimeout else .cleared))
    (fun done t fresh => ?_) allStations_nodup
  · rw [recordsAfter_all mem_allStations] at fold
    refine Eq.trans ?_ fold
    rw [State.startSilence]
    congr 1
    ext i hi
    simp [recordsAfter]
  · by_cases starts : t ≠ s.me ∧ s.standing t ≠ .absent
    · rw [if_pos starts, ← recordsAfter_set, if_pos starts]
    · rw [if_neg starts, recordsAfter_skip fresh (if_neg starts)]

/-! ## The own JOIN (R50, R52) -/

/-- A station outside the cluster takes its own JOIN, whose effect is the entry alone. -/
theorem State.handAccepted_join {s : State} {f : Frame} {tag : Octet} {found : Bool} (outside : s.station = .outside)
    (sender : f.sender = s.me) (body : f.body = .join found) (attempt : s.ss.attempt = some ⟨f, some (.request tag)⟩)
    (counted : s.ss.counted = some (.request tag)) (hand : s.inHand (.request tag) = true) : ∃ ss,
      let m : State := { s.met with ss := ss, hp := { s.hp with queue := s.settledQueue } }
      s.endSlot.handAccepted true f =
        (if found then m.found f.order tag else m.enterJoining .joined tag).concluded true f := by
  obtain ⟨ss, settled⟩ := State.settledBy_of_hand attempt counted hand
  refine ⟨ss, ?_⟩
  intro m
  have station : m.station = .outside := outside
  have counting : m.counting f = .track := State.counting_of_tracks f (.inr (.inl station))
  have named : m.takeNamed true tag f = if found then m.found f.order tag else m.enterJoining .joined tag := by
    rw [State.takeNamed, body]
    exact if_pos ⟨rfl, station⟩
  rw [State.handAccepted_own hand, settled]
  change State.concluded true f (((m.takeOwnState (m.counting f) true tag f).hear true f).applyStep (m.counting f) m.station
    true tag f) = _
  rw [counting, State.takeOwnState, named, station]
  cases found with
  | true =>
    have heard := State.hear_sender (s := m.found f.order tag) (f := f) sender (.inr rfl) (.inl (by rw [body]; rfl))
    simp only [if_true]
    rw [heard]
    exact congrArg _ (State.applyStep_of_left _ _ _ _ (by decide : StationState.inStep ≠ .outside))
  | false =>
    have heard := State.hear_sender (s := m.enterJoining .joined tag) (f := f) sender (.inl rfl) (.inl (by rw [body]; rfl))
    simp only [Bool.false_eq_true, if_false]
    rw [heard]
    exact congrArg _ (State.applyStep_of_left _ _ _ _ (by decide : StationState.joining ≠ .outside))

/-- The founder alone is in the roster (R50), and keeps no silence timer. -/
theorem State.startSilence_founded {s : State} (founded : s.tu = foundingReplica s.me) :
    s.startSilence = Vector.replicate 16 .cleared := by
  have alone (t : Station) : ¬ (t ≠ s.me ∧ s.standing t ≠ .absent) := by
    rintro ⟨other, listed⟩
    refine listed ?_
    rw [State.standing, State.entry, founded]
    have apart : ¬ s.me.val = t.val := fun e => other (Fin.ext e.symm)
    simp [foundingReplica, apart, absentEntry]
  rw [State.startSilence_eq]
  ext k hk
  simp [if_neg (alone _)]

/-- Settles O45: the own JOIN is the entry alone, and the conclusion leaves the entry as it is. -/
theorem ownJoinTaken : Obligations.OwnJoinTaken := by
  intro s f tag found slot outside sender body queue attempt counted
  have hand : s.inHand (.request tag) = true := by simp [State.inHand, queue]
  have settled : s.settledQueue = [] := by rw [State.settledQueue_eq attempt, queue]; rfl
  obtain ⟨ss, handled⟩ := State.handAccepted_join outside sender body attempt counted hand
  have runs := exec_slotWindowEnd_accepted slot (by simpa using sender)
  rw [handled, settled] at runs
  refine ⟨fun founds => ?_, fun joins => ?_⟩
  · rw [runs, founds, if_pos rfl, State.found, State.enterInStep_eq, State.concluded_indicate,
      State.startSilence_founded rfl]
    rfl
  · rw [runs, joins, if_neg Bool.false_ne_true, State.enterJoining_eq, State.concluded_indicate]
    rfl

/-! ## LEAVE and EVICT (R56) -/

/-- The own LEAVE of a station in the cluster, whose order number is its own. -/
theorem State.handAccepted_leave {s : State} {f : Frame} {i : Item} {tag : Octet} (hand : s.inHand i = true)
    (tagged : i.requestTag = tag)
    (station : s.station = .joining ∨ s.station = .inStep ∨ s.station = .diverged) (order : f.order = s.au.order)
    (body : f.body = .leave) (attempt : s.ss.attempt = some ⟨f, some i⟩) (counted : s.ss.counted = some i) : ∃ ss,
      let m : State := { s.met with ss := ss, hp := { s.hp with queue := s.settledQueue } }
      s.endSlot.handAccepted true f = (m.enterOutside .left tag).concluded true f := by
  obtain ⟨ss, settled⟩ := State.settledBy_of_hand attempt counted hand
  refine ⟨ss, ?_⟩
  intro m
  have stands : m.station = s.station := rfl
  have stake : m.station.hasStake = true := by rw [stands]; rcases station with e | e | e <;> rw [e] <;> rfl
  have named : m.takeNamed true tag f = m.enterOutside .left tag := by
    rw [State.takeNamed, body]
    exact if_pos ⟨rfl, stake⟩
  have taken : m.takeOwnState (m.counting f) true tag f = m.enterOutside .left tag := by
    have counting : m.counting f = .apply ∨ m.counting f = .track := by
      have same : f.order = m.au.order := order
      rcases station with e | e | e
      · by_cases part : m.tu.installed = 0
        · exact .inr (State.counting_of_tracks f (.inr (.inr (.inr ⟨e, part⟩))))
        · exact .inl (by rw [State.counting, stands, e]; exact (if_neg part).trans (if_pos same))
      · exact .inl (by rw [State.counting, stands, e]; exact if_pos same)
      · exact .inr (State.counting_of_tracks f (.inr (.inr (.inl e))))
    rcases counting with e | e <;> rw [e, State.takeOwnState, named]
  have left : ¬ (m.enterOutside .left tag).station = m.station := by
    rw [State.enterOutside_station, stands]; rcases station with e | e | e <;> rw [e] <;> decide
  rw [State.handAccepted_own hand, settled, tagged]
  change State.concluded true f (((m.takeOwnState (m.counting f) true tag f).hear true f).applyStep (m.counting f) m.station
    true tag f) = _
  rw [taken, State.hear_of_apart (s := m.enterOutside .left tag) true
    ⟨(by decide : StationState.outside ≠ .inStep), (by decide : StationState.outside ≠ .joining)⟩]
  exact congrArg _ (State.applyStep_of_left _ _ _ _ left)

theorem State.sentFor_iff (s : State) (i : Item) (f : Frame) :
    s.sentFor i f = true ↔ s.inSlotOf ⟨.good f, .none, true⟩ = true ∧ f.sender = s.me ∧ f.order = s.au.order ∧
      s.requestsLawful = true ∧ s.ss.attempt = some ⟨f, some i⟩ ∧ s.ss.counted = some i ∧ s.inHand i = true := by
  simp [State.sentFor, and_assoc]

/-- An entry into OUTSIDE discards what the count of a peer's frame leaves of the timers. -/
theorem State.outsideBy_counted (f : Frame) (s : State) (cause : Cause) (tag : Octet) (order : f.order = s.au.order)
    (n : Nat) : (s.met.countOrder f).outsideBy cause tag n = (s.counted false f).outsideBy cause tag n := by
  have joiningCause : (s.counted false f).mc.joiningCause = s.mc.joiningCause := by
    by_cases station : s.station = .inStep <;> simp [State.counted_mc, station]
  simp only [State.outsideBy, joiningCause]
  rw [State.counted, ← order]
  rfl

/-- A peer's EVICT of this station, where it is taken. -/
theorem State.handAccepted_evict {s t : State} {f : Frame} (body : f.body = .evict s.me) (me : t.me = s.me)
    (taken : s.met.takeOwnState (s.met.counting f) false 0 f = t.takeNamed false 0 f) (takes : t.takesEvict f.sender = true)
    (inside : s.station ≠ .outside) :
    s.endSlot.handAccepted false f = (t.enterOutside .evicted 0).countOrder f := by
  rw [State.takeNamed_peer, if_pos ⟨me ▸ body, takes⟩] at taken
  exact State.handAccepted_of_left taken (.inr rfl) inside.symm

/-- Settles O46: the LEAVE and the EVICT are the entry into OUTSIDE alone; an ahead EVICT meets a DIVERGED station. -/
theorem leaveAndEvictTaken : Obligations.LeaveAndEvictTaken := by
  refine ⟨fun s f tag sent body station => ?_, fun s f slot other body => ?_⟩
  · obtain ⟨slot, sender, order, -, attempt, counted, hand⟩ := (s.sentFor_iff _ f).mp sent
    obtain ⟨ss, handled⟩ := State.handAccepted_leave hand (tag := tag) rfl station order body attempt counted
    have settled : s.settledQueue.length = s.hp.queue.length - 1 := by
      rw [State.settledQueue_eq attempt, List.length_drop]
    rw [exec_slotWindowEnd_accepted slot (by simpa using sender), handled, State.enterOutside_eq, State.outsideBy,
      State.concluded_indicate, ← settled, State.concluded_own, order]
    rfl
  · rw [exec_slotWindowEnd_of_peer slot other]
    refine ⟨fun hears => ?_, fun tracks => ?_, fun station ahead _ => ?_⟩
    · obtain ⟨-, station, part, -, order, member⟩ := (s.hearsPeer_iff f).mp hears
      have counting : s.met.counting f = .apply := State.counting_of_order (s := s.met) station part order
      have takes : s.met.takesEvict f.sender = true := by
        have stands : s.met.station = s.station := rfl
        have listed : s.met.standing f.sender = .member := member
        rw [State.takesEvict, stands, listed]
        rcases station with e | e <;> rw [e] <;> simp
      rw [State.handAccepted_evict body (t := s.met) rfl (by rw [counting]; rfl) takes
        (by rcases station with e | e <;> rw [e] <;> decide), State.enterOutside_eq, State.countOrder_outsideBy,
        ← State.outsideBy_counted f s .evicted 0 order]
      rfl
    · have counting : s.met.counting f = .track :=
        State.counting_of_tracks (s := s.met) f (.inr (.inr tracks))
      have takes : s.met.takesEvict f.sender = true := by
        rcases tracks with e | ⟨e, none⟩
        · rw [State.takesEvict, show s.met.station = .diverged from e]
        · rw [State.takesEvict, show s.met.station = .joining from e, State.hasInstalled,
            show s.met.tu.installed = 0 from none]
          rfl
      rw [State.handAccepted_evict body (t := s.met) rfl (by rw [counting]; rfl) takes
        (by rcases tracks with e | ⟨e, -⟩ <;> rw [e] <;> decide)]
      rfl
    · rw [State.handAccepted_evict body (t := s.met.divergedBy .aheadFrame) rfl
        (State.takeOwnState_of_ahead station ahead) rfl (by rw [station]; decide), State.enterOutside_eq]
      rw [State.countOrder_outsideBy, State.countOrder_divergedBy]
      have kept : (s.met.divergedBy .aheadFrame).hp.queue = s.hp.queue := State.indicate_hp_queue _ _
      rw [kept]
      rfl

end Sys2Proof.Machine
end

section
/-!
SUPPORT. A frame's effect on a station as one state: the replica, the timers, one run of indications and the local records.
The folds over locks, barriers and roster entries in this form (R9, R22, R29, R30, R147, R152), and the departure of a
station (R57).
-/

namespace Sys2Proof.Machine

/-- An effect said at once: the replica and the timers, a run of indications, and the local records. -/
def State.changed (tu : TableUnit) (mc : MembershipController) (rs : List Indication) (c : Vector ClaimRecord 32)
    (a : Vector ArrivalRecord 8) (w : Vector WatchSlot 4) (s : State) : State :=
  { s with tu := tu, mc := mc, hp := { s.hp.indicateAll rs with claims := c, arrivals := a, watches := w } }

section
variable (s : State) (tu : TableUnit) (mc : MembershipController) (rs qs : List Indication) (cs : Vector ClaimRecord 32)
  (a : Vector ArrivalRecord 8) (w : Vector WatchSlot 4)

theorem State.changed_indicateAll : (s.changed tu mc rs cs a w).hp.indicateAll qs =
    { s.hp.indicateAll (rs ++ qs) with claims := cs, arrivals := a, watches := w } := by
  have port := HostPort.indicateAll_records (s.hp.indicateAll rs) qs cs a w (s.hp.indicateAll rs).queue
  rw [HostPort.indicateAll_append]
  refine port.trans ?_
  simp only [HostPort.indicateAll_queue]

/-- An effect after an effect. -/
theorem State.changed_changed (tu' : TableUnit) (mc' : MembershipController) (cs' : Vector ClaimRecord 32)
    (a' : Vector ArrivalRecord 8) (w' : Vector WatchSlot 4) :
    (s.changed tu mc rs cs a w).changed tu' mc' qs cs' a' w' = s.changed tu' mc' (rs ++ qs) cs' a' w' := by
  rw [State.changed, State.changed_indicateAll]
  rfl

theorem State.indicate_eq_changed (r : Indication) :
    s.indicate r = s.changed s.tu s.mc [r] s.hp.claims s.hp.arrivals s.hp.watches := by
  by_cases room : s.hp.indications.length < Config.indicationCapacity <;>
    simp [State.changed, State.indicate, State.onHp, HostPort.indicateAll, HostPort.indicate, room]

theorem State.indicate_changed (r : Indication) :
    (s.changed tu mc rs cs a w).indicate r = s.changed tu mc (rs ++ [r]) cs a w :=
  ((s.changed tu mc rs cs a w).indicate_eq_changed r).trans (s.changed_changed tu mc rs [r] cs a w tu mc cs a w)

theorem State.setLock_changed (l : LockNo) (r : LockRecord) : (s.changed tu mc rs cs a w).setLock l r =
    s.changed { tu with locks := tu.locks.set l r } mc rs cs a w := rfl
theorem State.setClaim_changed (l : LockNo) (x : ClaimRecord) : (s.changed tu mc rs cs a w).setClaim l x =
    s.changed tu mc rs (cs.set l x) a w := rfl
theorem State.setBarrier_changed (b : BarrierNo) (r : BarrierRecord) : (s.changed tu mc rs cs a w).setBarrier b r =
    s.changed { tu with barriers := tu.barriers.set b r } mc rs cs a w := rfl
theorem State.setArrival_changed (b : BarrierNo) (x : ArrivalRecord) : (s.changed tu mc rs cs a w).setArrival b x =
    s.changed tu mc rs cs (a.set b x) w := rfl
theorem State.setEntry_changed (t : Station) (e : RosterEntry) : (s.changed tu mc rs cs a w).setEntry t e =
    s.changed { tu with roster := tu.roster.set t e } mc rs cs a w := rfl
theorem State.lock_changed (l : LockNo) : (s.changed tu mc rs cs a w).lock l = tu.locks[l] := rfl
theorem State.claim_changed (l : LockNo) : (s.changed tu mc rs cs a w).claim l = cs[l] := rfl
theorem State.barrier_changed (b : BarrierNo) : (s.changed tu mc rs cs a w).barrier b = tu.barriers[b] := rfl
theorem State.arrival_changed (b : BarrierNo) : (s.changed tu mc rs cs a w).arrival b = a[b] := rfl
theorem State.entry_changed (t : Station) : (s.changed tu mc rs cs a w).entry t = tu.roster[t] := rfl

/-- The conclusion of a frame commutes with its effect. -/
theorem State.concluded_changed (own : Bool) (f : Frame) :
    (s.changed tu mc rs cs a w).concluded own f = (s.concluded own f).changed tu mc rs cs a w := by
  cases own with
  | false => rfl
  | true =>
    have queue : (s.changed tu mc rs cs a w).hp.queue = s.hp.queue := HostPort.indicateAll_queue s.hp rs
    have port := HostPort.indicateAll_records s.hp rs s.hp.claims s.hp.arrivals s.hp.watches
      (s.hp.queue.map (fun r => { r with inAttempt := false }))
    rw [State.concluded_own, State.concluded_own, queue]
    unfold State.changed
    rw [port]

end

section
variable (s : State)

theorem State.setLock_self (l : LockNo) : s.setLock l (s.lock l) = s := by
  simp [State.setLock, State.lock, State.onTu]
theorem State.setClaim_self (l : LockNo) : s.setClaim l (s.claim l) = s := by
  simp [State.setClaim, State.claim, State.onHp]
theorem State.setBarrier_self (b : BarrierNo) : s.setBarrier b (s.barrier b) = s := by
  simp [State.setBarrier, State.barrier, State.onTu]
theorem State.setArrival_self (b : BarrierNo) : s.setArrival b (s.arrival b) = s := by
  simp [State.setArrival, State.arrival, State.onHp]

end

/-- The reports of one item more. -/
theorem filter_concat_map {α β : Type} (m : α → Bool) (report : α → β) (done : List α) (a : α) :
    ((done ++ [a]).filter m).map report = (done.filter m).map report ++ if m a then [report a] else [] := by
  cases hit : m a <;> simp [hit]

/-! ## Locks in ascending number -/

/-- The locks of a list changed, with their claim records, and GRANTED for those granted. -/
def State.locksAfter (left : LockNo → LockRecord) (kept : LockNo → ClaimRecord) (granted : LockNo → Bool) (s : State)
    (done : List LockNo) : State :=
  s.changed { s.tu with locks := recordsAfter s.lock left done } s.mc
    ((done.filter granted).map (fun l => .granted (s.claim l).tag l)) (recordsAfter s.claim kept done) s.hp.arrivals
    s.hp.watches

section
variable (s : State) (left : LockNo → LockRecord) (kept : LockNo → ClaimRecord) (granted : LockNo → Bool)
  {done : List LockNo} {l : LockNo}

theorem State.locksAfter_nil : s.locksAfter left kept granted [] = s := by
  have locks : recordsAfter s.lock left [] = s.tu.locks := recordsAfter_nil s.tu.locks left
  have claims : recordsAfter s.claim kept [] = s.hp.claims := recordsAfter_nil s.hp.claims kept
  rw [State.locksAfter, locks, claims]
  rfl

theorem State.locksAfter_concat (done : List LockNo) (l : LockNo) :
    s.locksAfter left kept granted (done ++ [l]) =
      (((s.locksAfter left kept granted done).setLock l (left l)).setClaim l (kept l)).indicateIf (granted l)
        (.granted (s.claim l).tag l) := by
  rw [State.locksAfter, State.locksAfter, filter_concat_map, State.setLock_changed, State.setClaim_changed,
    recordsAfter_set, recordsAfter_set]
  cases granted l with
  | true => exact (State.indicate_changed _ _ _ _ _ _ _ _).symm
  | false => rw [if_neg Bool.false_ne_true, List.append_nil]; rfl

theorem State.locksAfter_read (fresh : l ∉ done) : (s.locksAfter left kept granted done).lock l = s.lock l ∧
    (s.locksAfter left kept granted done).claim l = s.claim l ∧
    (s.locksAfter left kept granted done).me = s.me ∧
    (s.locksAfter left kept granted done).tu.installed = s.tu.installed := by
  rw [State.locksAfter, State.lock_changed, State.claim_changed]
  exact ⟨recordsAfter_get fresh, recordsAfter_get fresh, rfl, rfl⟩

end

/-- The fold of a lock operation whose every step is given. -/
theorem State.foldl_locks {op : State → LockNo → State} (s : State) (left : LockNo → LockRecord)
    (kept : LockNo → ClaimRecord) (granted : LockNo → Bool) {ls : List LockNo} (nodup : ls.Nodup)
    (step : ∀ (t : State) (l : LockNo), t.lock l = s.lock l → t.claim l = s.claim l → t.me = s.me →
      t.tu.installed = s.tu.installed → op t l = ((t.setLock l (left l)).setClaim l (kept l)).indicateIf (granted l)
        (.granted (s.claim l).tag l)) : ls.foldl op s = s.locksAfter left kept granted ls := by
  have fold := foldl_eq_of_step (op := op) (after := s.locksAfter left kept granted) (fun done l fresh => ?_) nodup
  · rwa [State.locksAfter_nil] at fold
  · obtain ⟨lock, claim, me, installed⟩ := s.locksAfter_read left kept granted fresh
    rw [State.locksAfter_concat]
    exact step (s.locksAfter left kept granted done) l lock claim me installed

/-- The locks of a departure (R9): the record a lock is left with, in a station that has its part. -/
def State.lockLeft (gone : Station) (s : State) (l : LockNo) : LockRecord :=
  if s.hasInstalled (lockPart l) then
    if (s.lock l).holder = some gone then
      match (s.lock l).waiters with
      | [] => ⟨none, []⟩
      | w :: rest => ⟨some w, rest⟩
    else ⟨(s.lock l).holder, (s.lock l).waiters.erase gone⟩
  else s.lock l

/-- The locks of a departure granted to this station. -/
def State.grantedBy (gone : Station) (s : State) (l : LockNo) : Bool :=
  s.hasInstalled (lockPart l) && (s.lock l).holder == some gone && (s.lock l).waiters.head? == some s.me

/-- The claim record with this station as the lock's holder where it is granted. -/
def State.claimIfGranted (granted : LockNo → Bool) (s : State) (l : LockNo) : ClaimRecord :=
  if granted l then { s.claim l with phase := .held } else s.claim l

theorem State.departLock_eq (gone : Station) (s t : State) (l : LockNo) (lock : t.lock l = s.lock l)
    (claim : t.claim l = s.claim l) (me : t.me = s.me) (installed : t.tu.installed = s.tu.installed) :
    t.departLock gone l = ((t.setLock l (s.lockLeft gone l)).setClaim l
      (s.claimIfGranted (s.grantedBy gone) l)).indicateIf (s.grantedBy gone l) (.granted (s.claim l).tag l) := by
  have part : t.hasInstalled (lockPart l) = s.hasInstalled (lockPart l) := by rw [State.hasInstalled, installed]; rfl
  have unclaimed (r : LockRecord) : (t.setLock l r).setClaim l (s.claim l) = t.setLock l r := by
    rw [← claim]; exact (t.setLock l r).setClaim_self l
  have skipped : t.setLock l (s.lock l) = t := by rw [← lock]; exact t.setLock_self l
  simp only [State.departLock, part, lock]
  by_cases holds : s.hasInstalled (lockPart l) = true
  · by_cases held : (s.lock l).holder = some gone
    · rw [if_pos holds, if_pos held, State.passOn_eq, lock, me]
      cases waiters : (s.lock l).waiters with
      | nil => simp [State.lockLeft, State.grantedBy, State.claimIfGranted, holds, held, waiters, unclaimed,
          State.indicateIf]
      | cons x rest =>
        by_cases here : x = s.me
        · simp [State.lockLeft, State.grantedBy, State.claimIfGranted, holds, held, waiters, here, State.indicateIf,
            State.grantHere, claim]
        · simp [State.lockLeft, State.grantedBy, State.claimIfGranted, holds, held, waiters, here, State.indicateIf,
            unclaimed]
    · have kept : t.setLock l ⟨(s.lock l).holder, (s.lock l).waiters.erase gone⟩ =
          if gone ∈ (s.lock l).waiters then t.setLock l ⟨(s.lock l).holder, (s.lock l).waiters.erase gone⟩ else t := by
        split
        · rfl
        · next absent => rw [List.erase_of_not_mem absent]; exact skipped
      rw [if_pos holds, if_neg held, ← kept]
      simp [State.lockLeft, State.grantedBy, State.claimIfGranted, holds, held, unclaimed, State.indicateIf]
  · rw [if_neg holds]
    simp [State.lockLeft, State.grantedBy, State.claimIfGranted, holds, skipped, State.indicateIf, ← claim, State.setClaim_self]

/-- The locks of a departure. -/
theorem State.departLocks_eq (gone : Station) (s : State) : allLocks.foldl (fun t l => t.departLock gone l) s =
    s.changed { s.tu with locks := Vector.ofFn (s.lockLeft gone) } s.mc
      ((allLocks.filter (s.grantedBy gone)).map (fun l => .granted (s.claim l).tag l))
      (Vector.ofFn (s.claimIfGranted (s.grantedBy gone))) s.hp.arrivals s.hp.watches := by
  rw [s.foldl_locks (s.lockLeft gone) (s.claimIfGranted (s.grantedBy gone)) (s.grantedBy gone) allLocks_nodup
    (State.departLock_eq gone s), State.locksAfter, recordsAfter_all mem_allLocks, recordsAfter_all mem_allLocks]

/-! ## Barriers in ascending number -/

/-- The barriers of a list changed, with their arrival records, and a report for those told. -/
def State.barriersAfter (left : BarrierNo → BarrierRecord) (kept : BarrierNo → ArrivalRecord) (told : BarrierNo → Bool)
    (report : BarrierNo → Indication) (s : State) (done : List BarrierNo) : State :=
  s.changed { s.tu with barriers := recordsAfter s.barrier left done } s.mc ((done.filter told).map report) s.hp.claims
    (recordsAfter s.arrival kept done) s.hp.watches

section
variable (s : State) (left : BarrierNo → BarrierRecord) (kept : BarrierNo → ArrivalRecord) (told : BarrierNo → Bool)
  (report : BarrierNo → Indication) {done : List BarrierNo} {b : BarrierNo}

theorem State.barriersAfter_nil : s.barriersAfter left kept told report [] = s := by
  have barriers : recordsAfter s.barrier left [] = s.tu.barriers := recordsAfter_nil s.tu.barriers left
  have arrivals : recordsAfter s.arrival kept [] = s.hp.arrivals := recordsAfter_nil s.hp.arrivals kept
  rw [State.barriersAfter, barriers, arrivals]
  rfl

theorem State.barriersAfter_concat (done : List BarrierNo) (b : BarrierNo) :
    s.barriersAfter left kept told report (done ++ [b]) =
      (((s.barriersAfter left kept told report done).setBarrier b (left b)).setArrival b (kept b)).indicateIf (told b)
        (report b) := by
  rw [State.barriersAfter, State.barriersAfter, filter_concat_map, State.setBarrier_changed, State.setArrival_changed,
    recordsAfter_set, recordsAfter_set]
  cases told b with
  | true => exact (State.indicate_changed _ _ _ _ _ _ _ _).symm
  | false => rw [if_neg Bool.false_ne_true, List.append_nil]; rfl

theorem State.barriersAfter_read (fresh : b ∉ done) :
    (s.barriersAfter left kept told report done).barrier b = s.barrier b ∧
    (s.barriersAfter left kept told report done).arrival b = s.arrival b ∧
    (s.barriersAfter left kept told report done).me = s.me ∧
    (s.barriersAfter left kept told report done).tu.installed = s.tu.installed := by
  rw [State.barriersAfter, State.barrier_changed, State.arrival_changed]
  exact ⟨recordsAfter_get fresh, recordsAfter_get fresh, rfl, rfl⟩

end

/-- The fold of a barrier operation whose every step is given. -/
theorem State.foldl_barriers {op : State → BarrierNo → State} (s : State) (left : BarrierNo → BarrierRecord)
    (kept : BarrierNo → ArrivalRecord) (told : BarrierNo → Bool) (report : BarrierNo → Indication)
    (step : ∀ (t : State) (b : BarrierNo), t.barrier b = s.barrier b → t.arrival b = s.arrival b → t.me = s.me →
      t.tu.installed = s.tu.installed →
      op t b = ((t.setBarrier b (left b)).setArrival b (kept b)).indicateIf (told b) (report b)) :
    allBarriers.foldl op s = s.changed { s.tu with barriers := Vector.ofFn left } s.mc ((allBarriers.filter told).map report)
      s.hp.claims (Vector.ofFn kept) s.hp.watches := by
  have fold := foldl_eq_of_step (op := op) (after := s.barriersAfter left kept told report) (fun done b fresh => ?_)
    allBarriers_nodup
  · rwa [State.barriersAfter_nil, State.barriersAfter, recordsAfter_all mem_allBarriers,
      recordsAfter_all mem_allBarriers] at fold
  · obtain ⟨barrier, arrival, me, installed⟩ := s.barriersAfter_read left kept told report fresh
    rw [State.barriersAfter_concat]
    exact step (s.barriersAfter left kept told report done) b barrier arrival me installed

/-- A barrier that a departure or a RESYNC breaks, in a station that has its part (R29). -/
def State.brokenBy (gone : Station) (s : State) (b : BarrierNo) : Bool :=
  s.hasInstalled (barrierPart b) && hasStation (s.barrier b).arrived gone

/-- A break that this station is told of: it had arrived too. -/
def State.toldBroken (gone : Station) (s : State) (b : BarrierNo) : Bool :=
  s.brokenBy gone b && hasStation (s.barrier b).arrived s.me

/-- The report of a break. -/
def State.brokenReport (gone : Station) (s : State) (b : BarrierNo) : Indication :=
  .barrierBroken (s.arrival b).tag b (s.barrier b).generation gone

theorem State.breakBarrier_eq {gone : Station} {s t : State} (other : gone ≠ s.me) (b : BarrierNo)
    (barrier : t.barrier b = s.barrier b) (arrival : t.arrival b = s.arrival b) (me : t.me = s.me)
    (installed : t.tu.installed = s.tu.installed) :
    t.breakBarrier gone b =
      ((t.setBarrier b (if s.brokenBy gone b then (s.barrier b).nextUse else s.barrier b)).setArrival b
        (if s.toldBroken gone b then noArrival else s.arrival b)).indicateIf (s.toldBroken gone b)
        (s.brokenReport gone b) := by
  have part : t.hasInstalled (barrierPart b) = s.hasInstalled (barrierPart b) := by
    rw [State.hasInstalled, installed]; rfl
  have unarrived (r : BarrierRecord) : (t.setBarrier b r).setArrival b (s.arrival b) = t.setBarrier b r := by
    rw [← arrival]; exact (t.setBarrier b r).setArrival_self b
  have skipped : t.setBarrier b (s.barrier b) = t := by rw [← barrier]; exact t.setBarrier_self b
  simp only [State.breakBarrier, part, barrier, me]
  by_cases broken : s.brokenBy gone b = true
  · have both : s.hasInstalled (barrierPart b) = true ∧ hasStation (s.barrier b).arrived gone = true := by
      simpa [State.brokenBy] using broken
    rw [if_pos both]
    by_cases here : hasStation (s.barrier b).arrived s.me = true
    · have told : s.toldBroken gone b = true := by simp [State.toldBroken, broken, here]
      rw [if_pos ⟨here, other.symm⟩, if_pos broken, told, State.indicateIf, if_pos rfl, if_pos rfl,
        State.brokenReport]
      exact (congrArg (fun a => State.setArrival b noArrival (State.indicate (.barrierBroken a.tag b _ gone) _))
        arrival).trans (State.setArrival_indicate _ b _ _)
    · have told : s.toldBroken gone b = false := by simp [State.toldBroken, here]
      rw [if_neg fun all => here all.1, if_pos broken, told, State.indicateIf, if_neg Bool.false_ne_true,
        if_neg Bool.false_ne_true, unarrived]
  · have told : s.toldBroken gone b = false := by simp [State.toldBroken, broken]
    have neither : ¬ (s.hasInstalled (barrierPart b) = true ∧ hasStation (s.barrier b).arrived gone = true) := by
      simpa [State.brokenBy] using broken
    rw [if_neg neither, if_neg broken, told, State.indicateIf, if_neg Bool.false_ne_true, if_neg Bool.false_ne_true,
      unarrived, skipped]

/-- The barriers of a departure or a RESYNC. -/
theorem State.breakBarriers_eq {gone : Station} (s : State) (other : gone ≠ s.me) :
    allBarriers.foldl (fun t b => t.breakBarrier gone b) s =
      s.changed { s.tu with barriers := Vector.ofFn (fun b =>
          if s.brokenBy gone b then (s.barrier b).nextUse else s.barrier b) } s.mc
        ((allBarriers.filter (s.toldBroken gone)).map (s.brokenReport gone)) s.hp.claims
        (Vector.ofFn (fun b => if s.toldBroken gone b then noArrival else s.arrival b)) s.hp.watches :=
  s.foldl_barriers _ _ _ _ fun _ b => State.breakBarrier_eq other b

/-- The own arrivals at the station's own RESYNC (R30): the barriers stay as they are. -/
theorem State.breakOwnArrivals_eq (s : State) : allBarriers.foldl (fun t b => t.breakOwnArrival b) s =
    s.changed s.tu s.mc ((allBarriers.filter (fun b => (s.arrival b).applied)).map (fun b =>
        .barrierBroken (s.arrival b).tag b ((s.arrival b).generation.getD 0) s.me)) s.hp.claims
      (Vector.ofFn (fun b => if (s.arrival b).applied then noArrival else s.arrival b)) s.hp.watches := by
  have same : Vector.ofFn s.barrier = s.tu.barriers := by ext i hi; simp [State.barrier]
  refine (s.foldl_barriers s.barrier (fun b => if (s.arrival b).applied then noArrival else s.arrival b)
    (fun b => (s.arrival b).applied) _ fun t b barrier arrival me _ => ?_).trans (by rw [same])
  have skipped : t.setBarrier b (s.barrier b) = t := by rw [← barrier]; exact t.setBarrier_self b
  have unarrived : t.setArrival b (s.arrival b) = t := by rw [← arrival]; exact t.setArrival_self b
  rw [skipped]
  simp only [State.breakOwnArrival, arrival, me]
  cases (s.arrival b).applied with
  | true => rfl
  | false => simp [unarrived, State.indicateIf]

/-! ## Roster entries in ascending station number -/

/-- A roster entry that the roster step completes. -/
def State.completes (p : PartNo) (s : State) (t : Station) : Bool :=
  (s.entry t).standing == .joining && ((s.entry t).gain p).standing == .member

/-- The entries of a list after the roster step, and a report for those completed. -/
def State.gainedAfter (p : PartNo) (wasInStep : Bool) (s : State) (done : List Station) : State :=
  s.changed { s.tu with roster := recordsAfter s.entry (fun t => (s.entry t).gain p) done } s.mc
    ((done.filter (fun t => wasInStep && s.completes p t)).map .peerInStep) s.hp.claims s.hp.arrivals s.hp.watches

/-- The roster step (R147 step 2). -/
theorem State.rosterStep_eq (p : PartNo) (wasInStep : Bool) (s : State) : s.rosterStep p wasInStep =
    s.changed { s.tu with roster := Vector.ofFn (fun t => (s.entry t).gain p) } s.mc
      ((allStations.filter (fun t => wasInStep && s.completes p t)).map .peerInStep) s.hp.claims s.hp.arrivals
      s.hp.watches := by
  have start : s.gainedAfter p wasInStep [] = s := by
    have roster : recordsAfter s.entry (fun t => (s.entry t).gain p) [] = s.tu.roster :=
      recordsAfter_nil s.tu.roster _
    rw [State.gainedAfter, roster]
    rfl
  have fold := foldl_eq_of_step (op := fun (t : State) k => t.gainEntry p wasInStep k)
    (after := s.gainedAfter p wasInStep) (fun done t fresh => ?_) allStations_nodup
  · rwa [start, State.gainedAfter, recordsAfter_all mem_allStations] at fold
  · have entry : (s.gainedAfter p wasInStep done).entry t = s.entry t := by
      rw [State.gainedAfter, State.entry_changed]
      exact recordsAfter_get fresh
    have concat : s.gainedAfter p wasInStep (done ++ [t]) =
        ((s.gainedAfter p wasInStep done).setEntry t ((s.entry t).gain p)).indicateIf (wasInStep && s.completes p t)
          (.peerInStep t) := by
      rw [State.gainedAfter, State.gainedAfter, filter_concat_map, State.setEntry_changed, recordsAfter_set]
      cases wasInStep && s.completes p t with
      | true => exact (State.indicate_changed _ _ _ _ _ _ _ _).symm
      | false => rw [if_neg Bool.false_ne_true, List.append_nil]; rfl
    rw [concat, State.gainEntry, entry, State.completes, Bool.and_assoc]

end Sys2Proof.Machine
end

section
/-!
SUPPORT. An equal frame at a station in the cluster (R84, R85, R87): it is counted and its sender heard, and its effect
stands between. Then the frames of chapter 3: the departure of a station, the loss of the cluster, the own RESYNC, and the
roster step of a SNAPSHOT.
-/

namespace Sys2Proof.Machine

/-! ## What is heard of a frame -/

/-- The timers a frame restarts (R60, R123, R124). -/
def State.heardMc (own : Bool) (f : Frame) (s : State) : MembershipController :=
  { s.mc with
    silence := if s.station = .inStep ∧ f.sender ≠ s.me ∧ s.standing f.sender ≠ .absent then
        s.mc.silence.set f.sender (.running 32768) else s.mc.silence
    presence := if own ∧ (s.station = .joining ∨ s.station = .inStep) then .running 4096 else s.mc.presence
    transfer := if f.body.isSnapshot ∧ s.station = .joining then .running 32768 else s.mc.transfer }

section
variable (own : Bool) (f : Frame) (s : State)

theorem State.hearSilence_eq (t : Station) : s.hearSilence t = { s with
    mc := { s.mc with
      silence := if s.station = .inStep ∧ t ≠ s.me ∧ s.standing t ≠ .absent then s.mc.silence.set t (.running 32768)
        else s.mc.silence } } := by
  unfold State.hearSilence
  split <;> rfl

theorem State.hearPresence_eq : s.hearPresence own = { s with
    mc := { s.mc with
      presence := if own ∧ (s.station = .joining ∨ s.station = .inStep) then .running 4096 else s.mc.presence } } := by
  unfold State.hearPresence
  split <;> rfl

theorem State.hearTransfer_eq : s.hearTransfer f = { s with
    mc := { s.mc with
      transfer := if f.body.isSnapshot ∧ s.station = .joining then .running 32768 else s.mc.transfer } } := by
  by_cases body : f.body.isSnapshot = true
  · unfold State.hearTransfer
    cases b : f.body <;> simp_all [FrameBody.isSnapshot]
    split <;> rfl
  · rw [State.hearTransfer_of_not_snapshot (by simpa using body), if_neg fun both => body both.1]

/-- Hearing a frame restarts timers and changes nothing else. -/
theorem State.hear_eq : s.hear own f = { s with mc := s.heardMc own f } := by
  rw [State.hear, State.hearSilence_eq, State.hearPresence_eq, State.hearTransfer_eq]
  rfl

variable {f s}

/-- A sender restarts its presence timer. -/
theorem State.heardMc_own (sender : f.sender = s.me) (station : s.station = .inStep ∨ s.station = .joining)
    (body : s.station = .joining → f.body.isSnapshot = false) : s.heardMc true f = (s.counted true f).mc := by
  rcases station with e | e
  · simp [State.heardMc, State.counted_mc, sender, e]
  · simp [State.heardMc, State.counted_mc, e, body e]

/-- A peer in the roster restarts its silence timer at an IN STEP station. -/
theorem State.heardMc_peer (sender : f.sender ≠ s.me) (listed : s.standing f.sender ≠ .absent)
    (body : s.station = .joining → f.body.isSnapshot = false) : s.heardMc false f = (s.counted false f).mc := by
  by_cases station : s.station = .inStep
  · simp [State.heardMc, State.counted_mc, sender, station, listed]
  · by_cases joining : s.station = .joining
    · simp [State.heardMc, State.counted_mc, joining, body joining]
    · simp [State.heardMc, State.counted_mc, joining, station]

end

/-! ## An equal frame -/

/-- A station in the cluster stands at the end of the slot of an equal frame that leaves its own state as it is. -/
structure State.MeetsEqual (own : Bool) (f : Frame) (s : State) : Prop where
  slot : s.inSlotOf ⟨.good f, .none, own⟩ = true
  sender : own = true ↔ f.sender = s.me
  station : s.station = .inStep ∨ (s.station = .joining ∧ s.holdsPart 0 = true)
  order : f.order = s.au.order
  hand : own = true → ∃ i, s.ss.attempt = some ⟨f, some i⟩ ∧ s.ss.counted = some i ∧ s.inHand i = true ∧
    s.requestsLawful = true
  notEvicted : f.body = .evict s.me → s.takesEvict f.sender = false
  notLeave : own = true → f.body ≠ .leave

/-- The state that the effect of an equal frame meets. -/
def State.equalMet (own : Bool) (ss : SendSelector) (f : Frame) (s : State) : State :=
  { s.met with
    mc := s.heardMc own f, ss := ss, hp := { s.hp with queue := if own then s.settledQueue else s.hp.queue } }

section
variable {own : Bool} {f : Frame} {s : State}

/-- Without an effect of its own, an equal frame leaves the frame counted, and the timers it restarts. -/
theorem State.concluded_equalMet (ss : SendSelector) (order : f.order = s.au.order)
    (queue : own = true → s.settledQueue.map (fun r => { r with inAttempt := false }) = s.settledQueue)
    (peer : own = false → ss = s.ss) :
    (s.equalMet own ss f).concluded own f = { s.counted own f with mc := s.heardMc own f } := by
  cases own with
  | false =>
    rw [State.concluded_peer, State.counted, peer rfl, ← order]
    rfl
  | true =>
    have kept : (s.equalMet true ss f).hp.queue.map (fun r => { r with inAttempt := false }) = s.settledQueue := queue rfl
    rw [State.concluded_own, kept, State.counted, ← order]
    rfl

theorem State.takeNamed_of_stays (own : Bool) (tag : Octet) (station : s.station = .inStep ∨ s.station = .joining)
    (notEvicted : f.body = .evict s.me → s.takesEvict f.sender = false) (notLeave : own = true → f.body ≠ .leave) :
    s.takeNamed own tag f = s := by
  cases own with
  | false =>
    rw [State.takeNamed_peer]
    exact if_neg fun ⟨names, takes⟩ => by simp [notEvicted names] at takes
  | true =>
    have unsent := notLeave rfl
    have inside : s.station ≠ .outside ∧ s.station ≠ .diverged := by rcases station with e | e <;> rw [e] <;> decide
    rw [State.takeNamed]
    cases b : f.body with
    | leave => exact absurd b unsent
    | join found => simp [inside]
    | resync => simp [inside]
    | evict t => exact if_neg fun ⟨me, takes⟩ => by simp [notEvicted (me ▸ b)] at takes
    | _ => rfl

theorem State.MeetsEqual.counting (h : s.MeetsEqual own f) (t : State) (station : t.station = s.station)
    (order : t.au.order = s.au.order) (tu : t.tu = s.tu) : t.counting f = .apply := by
  rw [State.counting, station]
  rcases h.station with e | ⟨e, part⟩
  · rw [e]; exact if_pos (h.order.trans order.symm)
  · have some : t.tu.installed ≠ 0 := by
      rw [tu]; intro none; simp [State.holdsPart, none] at part
    rw [e]
    exact (if_neg some).trans (if_pos (h.order.trans order.symm))

/-- R87 for an equal frame: the effect stands between the hearing and the conclusion. -/
theorem State.MeetsEqual.handAccepted (h : s.MeetsEqual own f) : ∃ ss tag,
    exec (.slotWindowEnd .nothing) s = .next (((s.equalMet own ss f).applyFrame own tag f).concluded own f) ∧
    (s.equalMet own ss f).concluded own f = { s.counted own f with mc := s.heardMc own f } := by
  have inside : s.station = .inStep ∨ s.station = .joining := h.station.imp_right And.left
  have counting := h.counting
  cases own with
  | false =>
    refine ⟨s.ss, 0, (exec_slotWindowEnd_accepted h.slot h.sender).trans (congrArg _ ?_),
      State.concluded_equalMet s.ss h.order (fun e => by cases e) fun _ => rfl⟩
    have named := State.takeNamed_of_stays (s := s.met) false 0 inside h.notEvicted h.notLeave
    have heard : s.met.hear false f = s.equalMet false s.ss f := s.met.hear_eq false f
    calc s.endSlot.handAccepted false f
        = (((s.met.takeOwnState (s.met.counting f) false 0 f).hear false f).applyStep (s.met.counting f) s.met.station
            false 0 f).countOrder f := rfl
      _ = ((s.equalMet false s.ss f).applyStep .apply s.station false 0 f).countOrder f := by
        rw [counting s.met rfl rfl rfl, State.takeOwnState, named, heard]; rfl
      _ = ((s.equalMet false s.ss f).applyFrame false 0 f).countOrder f := by
        rw [State.applyStep, if_pos (show (s.equalMet false s.ss f).station = s.station from rfl)]
  | true =>
    obtain ⟨i, attempt, counted, hand, lawful⟩ := h.hand rfl
    obtain ⟨ss, settled⟩ := State.settledBy_of_hand attempt counted hand
    refine ⟨ss, i.requestTag, (exec_slotWindowEnd_accepted h.slot h.sender).trans (congrArg _ ?_),
      State.concluded_equalMet ss h.order (fun _ => State.unmarked_settledQueue attempt hand (.inl lawful))
        fun e => by cases e⟩
    let m : State := { s.met with ss := ss, hp := { s.hp with queue := s.settledQueue } }
    have named : m.takeNamed true i.requestTag f = m :=
      State.takeNamed_of_stays (s := m) true _ inside h.notEvicted h.notLeave
    have heard : m.hear true f = s.equalMet true ss f := m.hear_eq true f
    rw [State.handAccepted_own hand, settled]
    change State.concluded true f (((m.takeOwnState (m.counting f) true i.requestTag f).hear true f).applyStep
      (m.counting f) m.station true i.requestTag f) = _
    rw [counting m rfl rfl rfl, State.takeOwnState, named, heard, State.applyStep,
      if_pos (show (s.equalMet true ss f).station = m.station from rfl)]

/-- An equal frame without an effect. -/
theorem State.MeetsEqual.exec_of_no_effect (h : s.MeetsEqual own f)
    (applies : ∀ ss tag, (s.equalMet own ss f).applyFrame own tag f = s.equalMet own ss f) :
    exec (.slotWindowEnd .nothing) s = .next { s.counted own f with mc := s.heardMc own f } := by
  obtain ⟨ss, tag, runs, concluded⟩ := h.handAccepted
  rw [runs, applies ss tag, concluded]

/-- An equal frame whose effect is said at once. -/
theorem State.MeetsEqual.exec_of_effect (h : s.MeetsEqual own f) {tu : TableUnit} {mc : MembershipController}
    {rs : List Indication} {cs : Vector ClaimRecord 32} {a : Vector ArrivalRecord 8} {w : Vector WatchSlot 4}
    (applies : ∀ ss tag, (s.equalMet own ss f).applyFrame own tag f = (s.equalMet own ss f).changed tu mc rs cs a w) :
    exec (.slotWindowEnd .nothing) s = .next ((s.counted own f).changed tu mc rs cs a w) := by
  obtain ⟨ss, tag, runs, concluded⟩ := h.handAccepted
  rw [runs, applies ss tag, State.concluded_changed, concluded]
  rfl

end

theorem State.countsPeer_iff (s : State) (f : Frame) :
    s.countsPeer f = true ↔ s.inSlotOf ⟨.good f, .none, false⟩ = true ∧ (s.station = .inStep ∨ s.station = .joining) ∧
      s.holdsPart 0 = true ∧ f.sender ≠ s.me ∧ f.order = s.au.order := by
  simp [State.countsPeer, and_assoc]

theorem State.hearsSent_iff (s : State) (i : Item) (f : Frame) :
    s.hearsSent i f = true ↔ s.sentFor i f = true ∧ s.station = .inStep ∧ s.tu.installed = allPartsSet ∧
      s.standing s.me = .member := by
  simp [State.hearsSent, and_assoc]

section
variable {s : State} {f : Frame} {i : Item}

/-- A peer's equal frame that does not evict the station. -/
theorem State.meetsEqual_peer (h : s.countsPeer f = true) (notEvicted : f.body ≠ .evict s.me) : s.MeetsEqual false f := by
  obtain ⟨slot, station, part, sender, order⟩ := (s.countsPeer_iff f).mp h
  exact ⟨slot, by simpa using sender, station.imp_right fun e => ⟨e, part⟩, order, (fun e => by cases e),
    fun e => absurd e notEvicted, fun e => by cases e⟩

/-- An own frame in the cluster that neither leaves nor evicts the station. -/
theorem State.meetsEqual_sent (h : s.sentFor i f = true)
    (station : s.station = .inStep ∨ (s.station = .joining ∧ s.holdsPart 0 = true))
    (notEvicted : f.body ≠ .evict s.me) (notLeave : f.body ≠ .leave) : s.MeetsEqual true f := by
  obtain ⟨slot, sender, order, lawful, attempt, counted, hand⟩ := (s.sentFor_iff i f).mp h
  exact ⟨slot, by simpa using sender, station, order, fun _ => ⟨i, attempt, counted, hand, lawful⟩,
    fun e => absurd e notEvicted, fun _ => notLeave⟩

end

/-! ## Frames without an effect (R53, R54, R61) -/

/-- A frame that changes nothing of a station's records. -/
def FrameBody.idleAt (b : FrameBody) (sender : Station) (s : State) : Prop :=
  b = .presence ∨ (s.standing sender ≠ .member ∧ b ≠ .leave ∧ b ≠ .join true ∧ b ≠ .join false) ∨
    (b = .leave ∧ s.standing sender = .absent) ∨ (∃ gone, b = .evict gone ∧ s.standing gone = .absent)

theorem State.applyFrame_of_idle {s : State} {f : Frame} (own : Bool) (tag : Octet)
    (idle : f.body.idleAt f.sender s) : s.applyFrame own tag f = s := by
  rw [State.applyFrame]
  split
  · rcases idle with e | ⟨stranger, notLeave, notJoin, notFound⟩ | ⟨e, absent⟩ | ⟨gone, e, absent⟩
    · simp [e]
    · have none : (s.standing f.sender == .member) = false := beq_false_of_ne stranger
      cases b : f.body with
      | leave => exact absurd b notLeave
      | join found => cases found with
        | true => exact absurd b notJoin
        | false => exact absurd b notFound
      | _ => simp [none]
    · simp [e, State.applyLeave, absent]
    · simp [e, State.applyEvict, absent]
  · rfl

/-- A station's own PRESENCE, in whatever part of the cluster it is (R119, R123). -/
theorem exec_slotWindowEnd_presence {s : State} {f : Frame} (sent : s.sentFor .presence f = true)
    (station : s.station = .inStep ∨ s.station = .joining) (body : f.body = .presence) :
    exec (.slotWindowEnd .nothing) s = .next (s.counted true f) := by
  obtain ⟨slot, sender, order, -, attempt, counted, hand⟩ := (s.sentFor_iff _ f).mp sent
  obtain ⟨ss, settled⟩ := State.settledBy_of_hand attempt counted hand
  let m : State := { s.met with ss := ss, hp := { s.hp with queue := s.settledQueue } }
  have named : m.takeNamed true 0 f = m := by rw [State.takeNamed, body]
  have heard : m.hear true f = s.equalMet true ss f := m.hear_eq true f
  have counting : m.counting f = .apply ∨ m.counting f = .track := by
    have stands : m.station = s.station := rfl
    rw [State.counting, stands]
    rcases station with e | e
    · rw [e]; exact .inl (if_pos order)
    · rw [e]
      by_cases part : m.tu.installed = 0
      · exact .inr (if_pos part)
      · exact .inl ((if_neg part).trans (if_pos order))
  have taken : (m.takeOwnState (m.counting f) true 0 f).hear true f = s.equalMet true ss f := by
    rcases counting with e | e <;> rw [e, State.takeOwnState, named, heard]
  have applied : (s.equalMet true ss f).applyStep (m.counting f) m.station true 0 f = s.equalMet true ss f := by
    rcases counting with e | e
    · rw [e, State.applyStep, if_pos (show (s.equalMet true ss f).station = m.station from rfl)]
      exact State.applyFrame_of_idle true 0 (.inl body)
    · rw [e, State.applyStep_of_track _ _ _ _ fun _ => by rw [body]; rfl]
  have left := State.concluded_equalMet (own := true) ss order
    (fun _ => State.unmarked_settledQueue attempt hand (.inr fun _ => Item.noConfusion)) fun e => by cases e
  rw [exec_slotWindowEnd_accepted slot (by simpa using sender), State.handAccepted_own hand, settled]
  change Host.Outcome.next (State.concluded true f (((m.takeOwnState (m.counting f) true 0 f).hear true f).applyStep
    (m.counting f) m.station true 0 f)) = _
  rw [taken, applied, left, State.heardMc_own sender station fun _ => by rw [body]; rfl]

/-- The cancel mark of the request in attempt is looked at only when the attempt ends (R122). -/
theorem exec_slotWindowEnd_marked {s : State} {r : Request} {rest : List Request} {f : Frame}
    (queue : s.hp.queue = r :: rest) (mark : r.cancelMark = true)
    (sent : ({ s with hp := { s.hp with queue := { r with cancelMark := false } :: rest } } : State).sentFor
      (.request r.tag) f = true) : ∃ t,
    exec (.slotWindowEnd .nothing) { s with hp := { s.hp with queue := { r with cancelMark := false } :: rest } } =
      .next t ∧ exec (.slotWindowEnd .nothing) s = .next (t.indicate (.tooLate r.tag .cancel 0)) := by
  let s' : State := { s with hp := { s.hp with queue := { r with cancelMark := false } :: rest } }
  obtain ⟨slot, sender, -, -, attempt, counted, hand⟩ := (s'.sentFor_iff _ f).mp sent
  have marked : r.inAttempt = true := by
    obtain ⟨q, qs, head, -, marked, -⟩ := State.inHand_request hand
    obtain ⟨rfl, -⟩ := List.cons.inj head
    exact marked
  have request : s.endSlot.requestInAttempt = some r := State.requestInAttempt_of_head (s := s.endSlot) queue marked
  have request' : s'.endSlot.requestInAttempt = some { r with cancelMark := false } :=
    State.requestInAttempt_of_head (s := s'.endSlot) (r := { r with cancelMark := false }) rfl marked
  have settled : s.endSlot.settledBy true = s'.endSlot.settledBy true := by
    rw [State.settledBy, State.settledBy, if_pos rfl, if_pos rfl, State.settleRequest, State.settleRequest, request,
      request']
    exact congrArg _ ((State.removeRequest_of_head (s := s.endSlot) queue).trans
      (State.removeRequest_of_head (s := s'.endSlot) (r := { r with cancelMark := false }) rfl).symm)
  have tagged : s.endSlot.attemptTag = r.tag ∧ s.endSlot.attemptMarked = true := by
    rw [State.attemptTag, State.attemptMarked, request]; exact ⟨rfl, mark⟩
  have handled : s.endSlot.handAccepted true f =
      (s'.endSlot.handAccepted true f).indicate (.tooLate r.tag .cancel 0) := by
    rw [State.handAccepted_own hand, ← settled]
    simp only [State.handAccepted, tagged]
    rfl
  refine ⟨_, exec_slotWindowEnd_accepted (s := s') slot (by simpa using sender), ?_⟩
  have own : true = true ↔ f.sender = s.me := ⟨fun _ => sender, fun _ => rfl⟩
  rw [exec_slotWindowEnd_accepted (s := s) slot own, handled]

/-- Settles O44: the first clauses are equal frames without an effect; a cancel mark is looked at only at the end. -/
theorem countedBesideEffect : Obligations.CountedBesideEffect := by
  refine ⟨fun s f slot station sender order idle => ?_, fun s f sent station body => ?_,
    fun s t r rest f queue mark sent runs => ?_⟩
  · have notEvicted : f.body = .evict s.me → s.takesEvict f.sender = false := by
      intro named
      have stranger : s.standing f.sender ≠ .member := by
        rcases idle with e | ⟨stranger, -⟩ | ⟨e, -⟩ | ⟨gone, e, other, -⟩
        · exact absurd (named.symm.trans e) (by simp)
        · exact stranger
        · exact absurd (named.symm.trans e) (by simp)
        · exact absurd (FrameBody.evict.inj (e.symm.trans named)) other
      have none : (s.standing f.sender == .member) = false := beq_false_of_ne stranger
      rw [State.takesEvict, none]
      rcases station with e | ⟨e, part⟩
      · rw [e]
      · rw [e, show s.hasInstalled 0 = true from part]; rfl
    have meets : s.MeetsEqual false f := ⟨slot, by simpa using sender, station, order, (fun e => by cases e), notEvicted,
      (fun e => by cases e)⟩
    rw [meets.exec_of_no_effect fun ss tag => ?_]
    · refine congrArg (fun m => Host.Outcome.next { s.counted false f with mc := m }) ?_
      rcases station with e | ⟨e, -⟩
      · by_cases absent : s.standing f.sender = .absent <;> simp [State.heardMc, e, absent, sender]
      · by_cases body : f.body.isSnapshot = true <;> simp [State.heardMc, e, body]
    · refine State.applyFrame_of_idle false tag ?_
      exact idle.imp_right (Or.imp_right (Or.imp_right fun ⟨gone, e, _, absent⟩ => ⟨gone, e, absent⟩))
  · exact exec_slotWindowEnd_presence sent station body
  · obtain ⟨u, ends, answered⟩ := exec_slotWindowEnd_marked queue mark sent
    obtain rfl := Host.Outcome.next.inj (ends.symm.trans runs)
    exact answered

end Sys2Proof.Machine
end

section
/-!
SUPPORT. The frames of chapter 3 and the roster step of a SNAPSHOT: the departure of a station as one effect (R57), the loss
of the cluster (R59), the own RESYNC (R56), and the statements on them.
-/

namespace Sys2Proof.Machine

/-! ## The departure of a station, as one effect -/

/-- A watch slot that the word of a departed station matches (R45, R57). -/
def State.matchedBy (gone : Station) (s : State) (i : SlotNo) : Bool :=
  s.hasInstalled (wordPart gone) && (s.watch i).armed && (s.watch i).station == gone && (s.watch i).holds 0

theorem State.departWord_eq (gone : Station) (s : State) : s.departWord gone =
    s.changed { s.tu with words := if s.hasInstalled (wordPart gone) then s.tu.words.set gone 0 else s.tu.words } s.mc
      ((allSlots.filter (s.matchedBy gone)).map (fun i => .watchMatched (s.watch i).tag gone 0)) s.hp.claims
      s.hp.arrivals (Vector.ofFn (fun i => (s.watch i).afterMatch (s.matchedBy gone i))) := by
  rw [State.departWord]
  by_cases part : s.hasInstalled (wordPart gone) = true
  · have publish := s.applyPublish_eq gone false 0 0
    have matched : (fun i => (s.watch i).armed && (s.watch i).station == gone && (s.watch i).holds 0) =
        s.matchedBy gone := by
      funext i; simp [State.matchedBy, part]
    rw [if_pos part, if_pos part]
    refine Eq.trans ?_ (publish.trans ?_)
    · rfl
    · rw [← matched]
      simp [State.changed]
  · have matched (i : SlotNo) : s.matchedBy gone i = false := by simp [State.matchedBy, part]
    have watches : Vector.ofFn s.watch = s.hp.watches := by ext i hi; simp [State.watch]
    rw [if_neg part, if_neg part]
    have silent : allSlots.filter (s.matchedBy gone) = [] := List.filter_eq_nil_iff.mpr fun i _ => by simp [matched]
    simp only [matched, WatchSlot.afterMatch, Bool.false_eq_true, if_false, silent, List.map_nil, watches]
    rfl

/-- The reports of a departure, in their order (R58). -/
def State.departReports (gone : Station) (s : State) : List Indication :=
  (allLocks.filter (s.grantedBy gone)).map (fun l => Indication.granted (s.claim l).tag l) ++
    (allBarriers.filter (s.toldBroken gone)).map (s.brokenReport gone) ++
    (allSlots.filter (s.matchedBy gone)).map (fun i => Indication.watchMatched (s.watch i).tag gone 0)

/-- The replica a departure leaves, but for the roster. -/
def State.departTu (gone : Station) (s : State) : TableUnit :=
  { s.tu with
    locks := Vector.ofFn (s.lockLeft gone)
    barriers := Vector.ofFn (fun b => if s.brokenBy gone b then (s.barrier b).nextUse else s.barrier b)
    words := if s.hasInstalled (wordPart gone) then s.tu.words.set gone 0 else s.tu.words }

/-- Locks, barriers and the word of a departure (R57 steps 2 to 4). -/
theorem State.departItems_eq {gone : Station} (s : State) (other : gone ≠ s.me) : s.departItems gone =
    s.changed (s.departTu gone) s.mc (s.departReports gone) (Vector.ofFn (s.claimIfGranted (s.grantedBy gone)))
      (Vector.ofFn (fun b => if s.toldBroken gone b then noArrival else s.arrival b))
      (Vector.ofFn (fun i => (s.watch i).afterMatch (s.matchedBy gone i))) := by
  have afterLocks (ls : Vector LockRecord 32) (cs : Vector ClaimRecord 32) (rs : List Indication) :
      allBarriers.foldl (fun t b => t.breakBarrier gone b)
        (s.changed { s.tu with locks := ls } s.mc rs cs s.hp.arrivals s.hp.watches) =
      s.changed
        { s.tu with
          locks := ls
          barriers := Vector.ofFn (fun b => if s.brokenBy gone b then (s.barrier b).nextUse else s.barrier b) } s.mc
        (rs ++ (allBarriers.filter (s.toldBroken gone)).map (s.brokenReport gone)) cs
        (Vector.ofFn (fun b => if s.toldBroken gone b then noArrival else s.arrival b)) s.hp.watches := by
    have broken := State.breakBarriers_eq
      (s.changed { s.tu with locks := ls } s.mc rs cs s.hp.arrivals s.hp.watches) (gone := gone) other
    rw [State.changed_changed] at broken
    exact broken
  have afterBarriers (ls : Vector LockRecord 32) (bs : Vector BarrierRecord 8) (cs : Vector ClaimRecord 32)
      (a : Vector ArrivalRecord 8) (rs : List Indication) :
      (s.changed { s.tu with locks := ls, barriers := bs } s.mc rs cs a s.hp.watches).departWord gone =
      s.changed
        { s.tu with
          locks := ls, barriers := bs
          words := if s.hasInstalled (wordPart gone) then s.tu.words.set gone 0 else s.tu.words } s.mc
        (rs ++ (allSlots.filter (s.matchedBy gone)).map (fun i => .watchMatched (s.watch i).tag gone 0)) cs a
        (Vector.ofFn (fun i => (s.watch i).afterMatch (s.matchedBy gone i))) := by
    have written := (s.changed { s.tu with locks := ls, barriers := bs } s.mc rs cs a s.hp.watches).departWord_eq gone
    rw [State.changed_changed] at written
    exact written
  rw [State.departItems, State.departLocks_eq, afterLocks, afterBarriers]
  rfl

theorem noMember_eq_false_iff (roster : Vector RosterEntry 16) :
    noMember roster = false ↔ ∃ t : Station, roster[t].standing = .member := by
  simp [noMember, rosterSource, List.find?_isSome, mem_allStations]

/-- The departure of a station that leaves a MEMBER (R57, R58). -/
theorem State.depart_eq {gone : Station} (s : State) (other : gone ≠ s.me) (peer : Indication) (wasInStep : Bool)
    (left : noMember (s.tu.roster.set gone absentEntry) = false) : s.depart gone peer wasInStep =
    s.changed { s.departTu gone with roster := s.tu.roster.set gone absentEntry }
      { s.mc with silence := s.mc.silence.set gone .cleared }
      ((if wasInStep then [peer] else []) ++ s.departReports gone)
      (Vector.ofFn (s.claimIfGranted (s.grantedBy gone)))
      (Vector.ofFn (fun b => if s.toldBroken gone b then noArrival else s.arrival b))
      (Vector.ofFn (fun i => (s.watch i).afterMatch (s.matchedBy gone i))) := by
  have listed (roster : Vector RosterEntry 16) (mc : MembershipController) (rs : List Indication) :
      (s.changed { s.tu with roster := roster } mc rs s.hp.claims s.hp.arrivals s.hp.watches).departItems gone =
      s.changed { s.departTu gone with roster := roster } mc (rs ++ s.departReports gone)
        (Vector.ofFn (s.claimIfGranted (s.grantedBy gone)))
        (Vector.ofFn (fun b => if s.toldBroken gone b then noArrival else s.arrival b))
        (Vector.ofFn (fun i => (s.watch i).afterMatch (s.matchedBy gone i))) := by
    have items := State.departItems_eq
      (s.changed { s.tu with roster := roster } mc rs s.hp.claims s.hp.arrivals s.hp.watches) (gone := gone) other
    rw [State.changed_changed] at items
    exact items
  have told : (((s.setEntry gone absentEntry).setSilence gone .cleared).indicateIf wasInStep peer) =
      s.changed { s.tu with roster := s.tu.roster.set gone absentEntry }
        { s.mc with silence := s.mc.silence.set gone .cleared } (if wasInStep then [peer] else []) s.hp.claims
        s.hp.arrivals s.hp.watches := by
    cases wasInStep with
    | true => exact State.indicate_eq_changed _ peer
    | false => rfl
  have unlost : ¬ noMember (s.tu.roster.set gone absentEntry) = true := by rw [left]; exact Bool.false_ne_true
  calc s.depart gone peer wasInStep
      = (((s.setEntry gone absentEntry).setSilence gone .cleared).indicateIf wasInStep peer).departItems gone :=
        if_neg unlost
    _ = _ := by rw [told, listed]

/-! ## The laws of the replica's records (R1, R23, R46) -/

theorem vector_all_iff {α : Type} {n : Nat} (v : Vector α n) (p : α → Bool) :
    v.toList.all p = true ↔ ∀ i : Fin n, p v[i] = true := by
  rw [List.all_eq_true]
  constructor
  · intro all i
    exact all _ (Vector.mem_toList_iff.mpr (Vector.getElem_mem i.isLt))
  · intro all x mem
    obtain ⟨i, hi, rfl⟩ := Vector.mem_iff_getElem.mp (Vector.mem_toList_iff.mp mem)
    exact all ⟨i, hi⟩

theorem TableUnit.lawful_iff (u : TableUnit) : u.lawful = true ↔ (∀ l : LockNo, u.locks[l].lawful = true) ∧
    (∀ b : BarrierNo, u.barriers[b].lawful = true) ∧ ∀ t : Station, u.roster[t].lawful = true := by
  simp only [TableUnit.lawful, Bool.and_eq_true, vector_all_iff, and_assoc]

/-! ## Departures at a station in the cluster (R51, R53, R54) -/

section
variable {own : Bool} {s : State} {f : Frame} {gone : Station}

/-- The roster step of a departure leaves a MEMBER. -/
theorem State.left_of_member (member : ∃ t, t ≠ gone ∧ s.standing t = .member) (e : RosterEntry) :
    noMember (s.tu.roster.set gone e) = false := by
  obtain ⟨t, other, member⟩ := member
  refine (noMember_eq_false_iff _).mpr ⟨t, ?_⟩
  have apart : gone.val ≠ t.val := fun h => other (Fin.ext h.symm)
  have kept : (s.tu.roster.set gone e)[t] = s.tu.roster[t] := Vector.getElem_set_ne _ _ apart
  rw [kept]
  exact member

/-- The replica of a station that a peer departs from, but for the peer's entry and timer. -/
def State.departed (gone : Station) (entry : RosterEntry) (timer : Timer) (peer : List Indication) (s t : State) : State :=
  t.changed { s.departTu gone with roster := s.tu.roster.set gone entry }
    { t.mc with silence := t.mc.silence.set gone timer } (peer ++ s.departReports gone)
    (Vector.ofFn (s.claimIfGranted (s.grantedBy gone)))
    (Vector.ofFn (fun b => if s.toldBroken gone b then noArrival else s.arrival b))
    (Vector.ofFn (fun i => (s.watch i).afterMatch (s.matchedBy gone i)))

/-- The departure at the state that an equal frame's effect meets. -/
theorem State.depart_equalMet (other : gone ≠ s.me) (member : ∃ t, t ≠ gone ∧ s.standing t = .member) (ss : SendSelector)
    (peer : Indication) : (s.equalMet own ss f).depart gone peer (s.station == .inStep) =
      s.departed gone absentEntry .cleared (if s.station = .inStep then [peer] else []) (s.equalMet own ss f) := by
  have effect := (s.equalMet own ss f).depart_eq (gone := gone) other peer (s.station == .inStep)
    (State.left_of_member (s := s) member absentEntry)
  simp only [beq_iff_eq] at effect
  exact effect

/-- A JOINING entry made in an effect, and its silence timer where the station is IN STEP (R49, R51, R124). -/
theorem State.joined_changed (t : State) (tu : TableUnit) (roster : Vector RosterEntry 16) (mc : MembershipController)
    (rs : List Indication) (cs : Vector ClaimRecord 32) (a : Vector ArrivalRecord 8) (w : Vector WatchSlot 4)
    (other : gone ≠ t.me) :
    ((t.changed { tu with roster := roster } mc rs cs a w).setEntry gone joiningEntry).hearSilence gone =
      t.changed { tu with roster := roster.set gone joiningEntry }
        { mc with silence := if mc.state = .inStep then mc.silence.set gone (.running 32768) else mc.silence } rs cs a
        w := by
  rw [State.setEntry_changed]
  have entry : (roster.set gone joiningEntry)[gone] = joiningEntry := Vector.getElem_set_self _
  have listed : (t.changed { tu with roster := roster.set gone joiningEntry } mc rs cs a w).standing gone ≠ .absent := by
    rw [State.standing, State.entry_changed, entry]
    decide
  by_cases inStep : mc.state = .inStep
  · rw [if_pos inStep]
    exact if_pos ⟨inStep, other, listed⟩
  · rw [if_neg inStep]
    exact if_neg fun all => inStep all.1

/-- A rejoin: the departure, then the new entry and its silence timer (R51). -/
theorem State.rejoin_departed (other : gone ≠ s.me) (t : State) (straps : t.straps = s.straps)
    (station : t.station = s.station) (peer : List Indication) :
    ((s.departed gone absentEntry .cleared peer t).setEntry gone joiningEntry).hearSilence gone =
      s.departed gone joiningEntry (if s.station = .inStep then .running 32768 else .cleared) peer t := by
  have effect := State.joined_changed (gone := gone) t (s.departTu gone) (s.tu.roster.set gone absentEntry)
    { t.mc with silence := t.mc.silence.set gone .cleared } (peer ++ s.departReports gone)
    (Vector.ofFn (s.claimIfGranted (s.grantedBy gone)))
    (Vector.ofFn (fun b => if s.toldBroken gone b then noArrival else s.arrival b))
    (Vector.ofFn (fun i => (s.watch i).afterMatch (s.matchedBy gone i))) (by rw [State.me, straps]; exact other)
  have timer : (if t.mc.state = .inStep then (t.mc.silence.set gone .cleared).set gone (.running 32768)
      else t.mc.silence.set gone .cleared) =
      t.mc.silence.set gone (if s.station = .inStep then .running 32768 else .cleared) := by
    rw [show t.mc.state = s.station from station]
    split
    · exact Vector.set_set ..
    · rfl
  rw [Vector.set_set, timer] at effect
  exact effect

end

/-- A departure at a station that stands in the cluster (R51, R53, R54). -/
theorem State.MeetsEqual.exec_departure {own : Bool} {s : State} {f : Frame} {gone : Station} {peer : Indication}
    {entry : RosterEntry} {timer : Timer} (meets : s.MeetsEqual own f) (other : gone ≠ s.me) (part : s.holdsPart 0 = true)
    (member : ∃ t, t ≠ gone ∧ s.standing t = .member) (listed : s.standing gone ≠ .absent)
    (frame : (f.body = .leave ∧ gone = f.sender ∧ peer = .peerLeft gone ∧ entry = ⟨.absent, 0⟩ ∧ timer = .cleared) ∨
     (f.body = .evict gone ∧ s.standing f.sender = .member ∧ peer = .peerLost gone f.sender ∧ entry = ⟨.absent, 0⟩ ∧
      timer = .cleared) ∨
     ((f.body = .join true ∨ f.body = .join false) ∧ gone = f.sender ∧ peer = .peerJoined gone .rejoin ∧
      entry = ⟨.joining, 0⟩ ∧ timer = if s.station = .inStep then .running 32768 else .cleared)) :
    exec (.slotWindowEnd .nothing) s = .next (s.departed gone entry timer (if s.station = .inStep then [peer] else [])
      { s.counted own f with mc := s.heardMc own f }) := by
  refine meets.exec_of_effect fun ss tag => ?_
  have installed : (s.equalMet own ss f).hasInstalled 0 = true := part
  have depart (p : Indication) := State.depart_equalMet (own := own) (f := f) other member ss p
  have stood : (s.equalMet own ss f).standing gone ≠ .absent := listed
  rcases frame with ⟨body, rfl, rfl, rfl, rfl⟩ | ⟨body, sender, rfl, rfl, rfl⟩ | ⟨body, rfl, rfl, rfl, rfl⟩
  · rw [State.applyFrame, if_pos installed, body]
    exact (if_neg stood).trans (depart _)
  · have from' : ((s.equalMet own ss f).standing f.sender == .member) = true := beq_iff_eq.mpr sender
    rw [State.applyFrame, if_pos installed, body]
    exact (if_pos from').trans ((if_neg stood).trans (depart _))
  · have applies : (s.equalMet own ss f).applyFrame own tag f =
        (s.equalMet own ss f).applyJoin f.sender (s.station == .inStep) := by
      rw [State.applyFrame, if_pos installed]
      rcases body with e | e <;> rw [e] <;> rfl
    have kept : ¬ noMember (s.tu.roster.set f.sender absentEntry) = true := by
      rw [State.left_of_member member]; exact Bool.false_ne_true
    rw [applies, State.applyJoin, if_neg stood]
    refine (if_neg kept).trans ?_
    rw [depart]
    exact State.rejoin_departed other (s.equalMet own ss f) rfl rfl _

/-- What a departure leaves of a lawful lock: a wait queue holds a station once (R1, R9). -/
theorem State.lockLeft_of_lawful {s : State} (lawful : s.tu.lawful = true) (gone : Station) : s.lockLeft gone =
    fun l => if s.hasInstalled (lockPart l) then
      if (s.lock l).holder = some gone then
        match (s.lock l).waiters with
        | [] => ⟨none, []⟩
        | w :: rest => ⟨some w, rest⟩
      else ⟨(s.lock l).holder, (s.lock l).waiters.filter (fun w => w != gone)⟩
    else s.lock l := by
  funext l
  have nodup := LockRecord.nodup_of_lawful (((TableUnit.lawful_iff s.tu).mp lawful).1 l)
  rw [State.lockLeft, List.Nodup.erase_eq_filter (show (s.lock l).waiters.Nodup from nodup)] <;> rfl

/-- Settles O49: the departure is one effect of an equal frame, and a lawful wait queue holds a station once. -/
theorem peerDeparts : Obligations.PeerDeparts := by
  intro own i s f gone peer entry timer hears lawful other listed member frame
  have notEvicted : f.body ≠ .evict s.me := by
    rcases frame with ⟨body, -⟩ | ⟨body, -⟩ | ⟨body | body, -⟩ <;> rw [body] <;> simp [other]
  have sender : s.standing f.sender ≠ .absent := by
    rcases frame with ⟨-, rfl, -⟩ | ⟨-, member, -⟩ | ⟨-, rfl, -⟩
    · exact listed
    · rw [member]; decide
    · exact listed
  have notSnapshot : f.body.isSnapshot = false := by
    rcases frame with ⟨body, -⟩ | ⟨body, -⟩ | ⟨body | body, -⟩ <;> rw [body] <;> rfl
  obtain ⟨meets, part, mc⟩ : s.MeetsEqual own f ∧ s.holdsPart 0 = true ∧ s.heardMc own f = (s.counted own f).mc := by
    cases own with
    | false =>
      obtain ⟨-, -, part, apart, -⟩ := (s.countsPeer_iff f).mp hears
      exact ⟨State.meetsEqual_peer hears notEvicted, part, State.heardMc_peer apart sender fun _ => notSnapshot⟩
    | true =>
      obtain ⟨sent, station, all, -⟩ := (s.hearsSent_iff i f).mp hears
      obtain ⟨-, me, -⟩ := (s.sentFor_iff i f).mp sent
      have notLeave : f.body ≠ .leave := by
        rcases frame with ⟨-, rfl, -⟩ | ⟨body, -⟩ | ⟨-, rfl, -⟩
        · exact absurd me other
        · rw [body]; simp
        · exact absurd me other
      exact ⟨State.meetsEqual_sent sent (.inl station) notEvicted notLeave, by rw [State.holdsPart, all]; rfl,
        State.heardMc_own me (.inl station) fun _ => notSnapshot⟩
  have runs := meets.exec_departure other part member listed frame
  rw [mc, State.departed, State.departTu, State.lockLeft_of_lawful lawful, State.departReports, ← List.append_assoc,
    ← List.append_assoc] at runs
  exact runs


/-! ## The loss of the cluster (R59, R60) -/

/-- The cluster lost, field by field (R59, R60). -/
theorem State.loseCluster_eq (s : State) : s.loseCluster = State.outsideBy .clusterLost s.leaveTag s.discardedBesideLeave
    { s with au := { s.au with clusterKnown := false } } := State.leaveClusterFor_eq _ _

/-- The loss of the cluster discards the replica and the timers, whatever a frame has changed of them. -/
theorem State.loseCluster_discards (s : State) (tu : TableUnit) (silence : Vector Timer 16) :
    ({ s with tu := tu, mc := { s.mc with silence := silence } } : State).loseCluster = s.loseCluster := by
  rw [State.loseCluster_eq, State.loseCluster_eq]
  rfl

/-- No MEMBER is left where none but one station was MEMBER, and its entry is no longer. -/
theorem State.noMember_set {gone : Station} {s : State} (last : ∀ t, t ≠ gone → s.standing t ≠ .member)
    {e : RosterEntry} (ended : e.standing ≠ .member) : noMember (s.tu.roster.set gone e) = true := by
  rw [← Bool.not_eq_false, noMember_eq_false_iff]
  rintro ⟨t, member⟩
  by_cases same : t = gone
  · subst same
    have entry : (s.tu.roster.set t e)[t] = e := Vector.getElem_set_self _
    exact ended (entry ▸ member)
  · have apart : gone.val ≠ t.val := fun h => same (Fin.ext h.symm)
    have entry : (s.tu.roster.set gone e)[t] = s.tu.roster[t] := Vector.getElem_set_ne _ _ apart
    exact last t same (by rw [State.standing, State.entry, ← entry]; exact member)

/-- The departure of the last MEMBER is the loss of the cluster (R59). -/
theorem State.depart_lost {gone : Station} {s : State} (last : ∀ t, t ≠ gone → s.standing t ≠ .member) (peer : Indication)
    (wasInStep : Bool) : s.depart gone peer wasInStep = s.loseCluster :=
  (if_pos (State.noMember_set last (by decide))).trans (s.loseCluster_discards _ _)

/-- The frames of the last MEMBER that end the cluster. -/
theorem State.applyFrame_lost {s : State} {f : Frame} (tag : Octet) (part : s.hasInstalled 0 = true)
    (member : s.standing f.sender = .member) (last : ∀ t, t ≠ f.sender → s.standing t ≠ .member)
    (frame : f.body = .leave ∨ f.body = .resync ∨ f.body = .join true ∨ f.body = .join false ∨ f.body = .evict f.sender) :
    s.applyFrame false tag f = s.loseCluster := by
  have listed : s.standing f.sender ≠ .absent := by rw [member]; decide
  have from' : (s.standing f.sender == .member) = true := beq_iff_eq.mpr member
  have join : s.applyJoin f.sender (s.station == .inStep) = s.loseCluster := by
    rw [State.applyJoin, if_neg listed]
    exact (if_pos (State.noMember_set last (by decide))).trans (State.depart_lost last _ _)
  rw [State.applyFrame, if_pos part]
  rcases frame with e | e | e | e | e <;> rw [e]
  · exact (if_neg listed).trans (State.depart_lost last _ _)
  · exact (if_pos from').trans ((if_pos (State.noMember_set last (by decide))).trans (s.loseCluster_discards _ s.mc.silence))
  · exact join
  · exact join
  · exact (if_pos from').trans ((if_neg listed).trans (State.depart_lost last _ _))

/-- Settles O21: each cause is `State.loseCluster`, which discards what the frame changed before it. -/
theorem clusterLost : Obligations.ClusterLost := by
  refine ⟨fun s released => ⟨fun n joining running => ?_, fun apart => ?_⟩, fun s f hears joining last frame => ?_⟩
  · refine congrArg _ ((State.unlessReset_of_false released _).trans ?_)
    rw [State.expireTransfer, if_pos ⟨joining, by rw [running]; rfl⟩, State.loseCluster_eq]
  · refine congrArg _ ((State.unlessReset_of_false released _).trans ?_)
    exact if_neg fun both => apart both.1
  · obtain ⟨slot, station, part, sender, order, member⟩ := (s.hearsPeer_iff f).mp hears
    have notEvicted : f.body ≠ .evict s.me := by
      rcases frame with e | e | e | e | e <;> rw [e] <;> simp [sender]
    have counts : s.countsPeer f = true := (s.countsPeer_iff f).mpr ⟨slot, station, part, sender, order⟩
    obtain ⟨ss, tag, runs, concluded⟩ := (State.meetsEqual_peer counts notEvicted).handAccepted
    obtain rfl : ss = s.ss := congrArg State.ss concluded
    rw [runs, State.applyFrame_lost (s := s.equalMet false s.ss f) tag part member last frame, State.loseCluster_eq]
    rfl

/-! ## The own RESYNC (R30, R56) -/

section
variable (s : State) (tu : TableUnit) (mc : MembershipController) (rs : List Indication)

/-- An effect that leaves the claim records and the watches. -/
theorem State.changed_arrivals_only (a : Vector ArrivalRecord 8) : s.changed tu mc rs s.hp.claims a s.hp.watches =
    { s with tu := tu, mc := mc, hp := { s.hp.indicateAll rs with arrivals := a } } := by
  simp [State.changed]

/-- An effect that leaves the local records. -/
theorem State.changed_indications_only : s.changed tu mc rs s.hp.claims s.hp.arrivals s.hp.watches =
    { s with tu := tu, mc := mc, hp := s.hp.indicateAll rs } := by
  have frame := s.hp.indicateAll_frame rs
  rw [State.changed]
  generalize s.hp.indicateAll rs = k at *
  rw [frame]

end

/-- A sender in JOINING whose presence timer is just started hears itself without a change. -/
theorem State.hear_sender_joining {s : State} {f : Frame} (sender : f.sender = s.me) (station : s.station = .joining)
    (presence : s.mc.presence = .running 4096) (body : f.body.isSnapshot = false) : s.hear true f = s := by
  rw [State.hear_sender sender (.inl station) (.inl body), ← presence]

/-- JOINING entered after an effect. -/
theorem State.enterJoining_changed (s : State) (tu : TableUnit) (mc : MembershipController) (rs : List Indication)
    (cs : Vector ClaimRecord 32) (a : Vector ArrivalRecord 8) (w : Vector WatchSlot 4) (cause : JoiningCause)
    (tag : Octet) : (s.changed tu mc rs cs a w).enterJoining cause tag =
      s.changed tu
        { mc with state := .joining, joiningCause := cause, presence := .running 4096, transfer := .running 32768 }
        (rs ++ [.state .joining cause.cause tag 0]) cs a w :=
  State.indicate_changed s tu
    { mc with state := .joining, joiningCause := cause, presence := .running 4096, transfer := .running 32768 } rs cs a w
    _

/-- The own RESYNC, as one effect (R30, R56, R139). -/
theorem State.takeResync_eq (s : State) : s.takeResync = s.changed { s.tu with installed := 0 }
    { s.mc with
      state := .joining, joiningCause := .resynced, presence := .running 4096, transfer := .running 32768 }
    ((allBarriers.filter (fun b => (s.arrival b).applied)).map (fun b =>
      Indication.barrierBroken (s.arrival b).tag b ((s.arrival b).generation.getD 0) s.me) ++
      [.state .joining .resynced 0 0]) s.hp.claims
    (Vector.ofFn (fun b => if (s.arrival b).applied then noArrival else s.arrival b)) s.hp.watches := by
  have broken (tu : TableUnit) : allBarriers.foldl (fun t b => t.breakOwnArrival b)
      (s.changed tu s.mc [] s.hp.claims s.hp.arrivals s.hp.watches) = s.changed tu s.mc
      ((allBarriers.filter (fun b => (s.arrival b).applied)).map (fun b =>
        Indication.barrierBroken (s.arrival b).tag b ((s.arrival b).generation.getD 0) s.me)) s.hp.claims
      (Vector.ofFn (fun b => if (s.arrival b).applied then noArrival else s.arrival b)) s.hp.watches := by
    have own := State.breakOwnArrivals_eq (s.changed tu s.mc [] s.hp.claims s.hp.arrivals s.hp.watches)
    rw [State.changed_changed, List.nil_append] at own
    exact own
  calc s.takeResync
      = (allBarriers.foldl (fun t b => t.breakOwnArrival b) (s.changed { s.tu with installed := 0 } s.mc [] s.hp.claims
          s.hp.arrivals s.hp.watches)).enterJoining .resynced 0 := rfl
    _ = _ := by rw [broken, State.enterJoining_changed]; rfl

/-- Settles O47: the RESYNC is tracked, and the entry into JOINING is its whole effect. -/
theorem ownResyncTaken : Obligations.OwnResyncTaken := by
  intro s f slot diverged sender body attempt consistent
  have both : s.ss.counted = some .resync ∧ s.inHand .resync = true := by
    simp only [State.attemptConsistent, attempt, Bool.and_eq_true, beq_iff_eq] at consistent
    exact consistent.2
  obtain ⟨counted, hand⟩ := both
  obtain ⟨ss, settled⟩ := State.settledBy_of_hand attempt counted hand
  let m : State := { s.met with ss := ss, hp := { s.hp with queue := s.settledQueue } }
  have station : m.station = .diverged := diverged
  have counting : m.counting f = .track := State.counting_of_tracks f (.inr (.inr (.inl station)))
  have named : m.takeNamed true 0 f = m.takeResync := by
    rw [State.takeNamed, body]
    exact if_pos ⟨rfl, station⟩
  have heard : m.takeResync.hear true f = m.takeResync := by
    rw [State.takeResync_eq]
    exact State.hear_sender_joining sender rfl rfl (by rw [body]; rfl)
  have queue : s.settledQueue.map (fun r => { r with inAttempt := false }) = s.hp.queue := by
    rw [State.unmarked_settledQueue attempt hand (.inr fun _ => Item.noConfusion),
      State.settledQueue_of_duty (fun _ => Item.noConfusion) attempt]
  have left : ¬ m.takeResync.station = m.station := by
    rw [station, State.takeResync_eq]; exact (by decide : StationState.joining ≠ .diverged)
  rw [exec_slotWindowEnd_accepted slot (by simpa using sender), State.handAccepted_own hand, settled]
  change Host.Outcome.next (State.concluded true f (((m.takeOwnState (m.counting f) true 0 f).hear true f).applyStep
    (m.counting f) m.station true 0 f)) = _
  rw [counting, State.takeOwnState, named, heard, State.applyStep_of_left _ _ _ _ left, State.takeResync_eq,
    State.concluded_changed, State.concluded_own]
  have port : m.hp.queue.map (fun r => { r with inAttempt := false }) = s.hp.queue := queue
  rw [port]
  exact congrArg _ (State.changed_arrivals_only ..)

/-! ## A peer becomes JOINING (R49, R55) -/

/-- The JOINING entry of a peer that was ABSENT, with its report and its timer (R49). -/
theorem State.applyJoin_of_absent {s : State} {t : Station} (absent : s.standing t = .absent) (other : t ≠ s.me) :
    s.applyJoin t (s.station == .inStep) = s.changed { s.tu with roster := s.tu.roster.set t joiningEntry }
      { s.mc with silence := if s.mc.state = .inStep then s.mc.silence.set t (.running 32768) else s.mc.silence }
      (if s.station = .inStep then [.peerJoined t .new] else []) s.hp.claims s.hp.arrivals s.hp.watches := by
  have told : (s.setEntry t joiningEntry).indicateIf (s.station == .inStep) (.peerJoined t .new) =
      (s.changed s.tu s.mc (if s.station = .inStep then [.peerJoined t .new] else []) s.hp.claims s.hp.arrivals
        s.hp.watches).setEntry t joiningEntry := by
    by_cases station : s.station = .inStep
    · rw [if_pos station, ← State.indicate_eq_changed, station]; rfl
    · rw [if_neg station, beq_false_of_ne station]; rfl
  rw [State.applyJoin, if_pos absent, told]
  exact State.joined_changed s s.tu s.tu.roster s.mc _ s.hp.claims s.hp.arrivals s.hp.watches other

/-- The RESYNC of a MEMBER that leaves a MEMBER (R29, R55). -/
theorem State.applyResync_eq {s : State} {t : Station} (other : t ≠ s.me)
    (left : noMember (s.tu.roster.set t joiningEntry) = false) :
    s.applyResync t (s.station == .inStep) = s.changed
      { s.tu with
        roster := s.tu.roster.set t joiningEntry
        barriers := Vector.ofFn (fun b => if s.brokenBy t b then (s.barrier b).nextUse else s.barrier b) }
      s.mc ((if s.station = .inStep then [.peerJoined t .resync] else []) ++
        (allBarriers.filter (s.toldBroken t)).map (s.brokenReport t)) s.hp.claims
      (Vector.ofFn (fun b => if s.toldBroken t b then noArrival else s.arrival b)) s.hp.watches := by
  have told : (s.setEntry t joiningEntry).indicateIf (s.station == .inStep) (.peerJoined t .resync) =
      s.changed { s.tu with roster := s.tu.roster.set t joiningEntry } s.mc
        (if s.station = .inStep then [.peerJoined t .resync] else []) s.hp.claims s.hp.arrivals s.hp.watches := by
    by_cases station : s.station = .inStep
    · rw [if_pos station, station]; exact State.indicate_eq_changed _ _
    · rw [if_neg station, beq_false_of_ne station]; rfl
  have breaks (roster : Vector RosterEntry 16) (rs : List Indication) : allBarriers.foldl (fun u b => u.breakBarrier t b)
      (s.changed { s.tu with roster := roster } s.mc rs s.hp.claims s.hp.arrivals s.hp.watches) = s.changed
      { s.tu with
        roster := roster
        barriers := Vector.ofFn (fun b => if s.brokenBy t b then (s.barrier b).nextUse else s.barrier b) }
      s.mc (rs ++ (allBarriers.filter (s.toldBroken t)).map (s.brokenReport t)) s.hp.claims
      (Vector.ofFn (fun b => if s.toldBroken t b then noArrival else s.arrival b)) s.hp.watches := by
    have broken := State.breakBarriers_eq
      (s.changed { s.tu with roster := roster } s.mc rs s.hp.claims s.hp.arrivals s.hp.watches) (gone := t) other
    rw [State.changed_changed] at broken
    exact broken
  have kept : ¬ noMember (s.tu.roster.set t joiningEntry) = true := by rw [left]; exact Bool.false_ne_true
  calc s.applyResync t (s.station == .inStep)
      = allBarriers.foldl (fun u b => u.breakBarrier t b)
          ((s.setEntry t joiningEntry).indicateIf (s.station == .inStep) (.peerJoined t .resync)) := if_neg kept
    _ = _ := by rw [told, breaks]

/-- Settles O48: the JOIN is an entry and its timer, the RESYNC an entry and the barriers that break. -/
theorem peerBecomesJoining : Obligations.PeerBecomesJoining := by
  refine ⟨fun s f found counts body absent => ?_, fun s f hears body member => ?_⟩
  · obtain ⟨-, station, part, sender, -⟩ := (s.countsPeer_iff f).mp counts
    have meets := State.meetsEqual_peer counts (by rw [body]; simp)
    have runs := meets.exec_of_effect (tu := { s.tu with roster := s.tu.roster.set f.sender joiningEntry })
      (mc := (s.counted false f).mc) (rs := if s.station = .inStep then [.peerJoined f.sender .new] else [])
      (cs := s.hp.claims) (a := s.hp.arrivals) (w := s.hp.watches) (fun ss tag => ?_)
    · rw [runs]
      by_cases inStep : s.station = .inStep
      · rw [if_pos inStep, inStep, State.indicateAt]
        exact congrArg _ (State.indicate_eq_changed ((s.counted false f).setEntry f.sender ⟨.joining, 0⟩) _).symm
      · rw [if_neg inStep, beq_false_of_ne inStep]
        rfl
    · have joined := State.applyJoin_of_absent (s := s.equalMet false ss f) absent sender
      have applies : (s.equalMet false ss f).applyFrame false tag f =
          (s.equalMet false ss f).applyJoin f.sender ((s.equalMet false ss f).station == .inStep) := by
        rw [State.applyFrame, if_pos (show (s.equalMet false ss f).hasInstalled 0 = true from part), body]
      have timers : ({ s.heardMc false f with
          silence := if (s.heardMc false f).state = .inStep then
              (s.heardMc false f).silence.set f.sender (.running 32768) else (s.heardMc false f).silence } :
          MembershipController) = (s.counted false f).mc := by
        have stands : s.mc.state = s.station := rfl
        rcases station with e | e
        · simp [State.heardMc, State.counted_mc, absent, body, e, stands, FrameBody.isSnapshot]
        · have kept : (s.counted false f).mc = s.mc := by simp [State.counted_mc, e]
          have heard : s.heardMc false f = s.mc := by simp [State.heardMc, e, body, FrameBody.isSnapshot]
          rw [heard, kept, if_neg (by rw [stands, e]; decide)]
      rw [applies, joined]
      exact congrArg (fun mc => (s.equalMet false ss f).changed _ mc _ _ _ _) timers
  · obtain ⟨slot, station, part, sender, order, standing⟩ := (s.hearsPeer_iff f).mp hears
    have counts : s.countsPeer f = true := (s.countsPeer_iff f).mpr ⟨slot, station, part, sender, order⟩
    have meets := State.meetsEqual_peer counts (by rw [body]; simp)
    have mc : s.heardMc false f = (s.counted false f).mc :=
      State.heardMc_peer sender (by rw [standing]; decide) fun _ => by rw [body]; rfl
    have runs := meets.exec_of_effect
      (tu := { s.tu with
        roster := s.tu.roster.set f.sender joiningEntry
        barriers := Vector.ofFn (fun b => if s.brokenBy f.sender b then (s.barrier b).nextUse else s.barrier b) })
      (mc := (s.counted false f).mc)
      (rs := (if s.station = .inStep then [.peerJoined f.sender .resync] else []) ++
        (allBarriers.filter (s.toldBroken f.sender)).map (s.brokenReport f.sender))
      (cs := s.hp.claims) (a := Vector.ofFn (fun b => if s.toldBroken f.sender b then noArrival else s.arrival b))
      (w := s.hp.watches) (fun ss tag => ?_)
    · exact runs.trans (congrArg _ (State.changed_arrivals_only (s.counted false f) _ _ _ _))
    · have resync := State.applyResync_eq (s := s.equalMet false ss f) (t := f.sender) sender
        (State.left_of_member (s := s) member joiningEntry)
      have from' : ((s.equalMet false ss f).standing f.sender == .member) = true := beq_iff_eq.mpr standing
      have applies : (s.equalMet false ss f).applyFrame false tag f =
          (s.equalMet false ss f).applyResync f.sender ((s.equalMet false ss f).station == .inStep) := by
        rw [State.applyFrame, if_pos (show (s.equalMet false ss f).hasInstalled 0 = true from part), body]
        exact if_pos from'
      rw [applies, resync, ← mc]
      rfl

/-! ## The roster step of a SNAPSHOT (R147, R150) -/

/-- A JOINING entry that lacks a part, by its number. -/
theorem RosterEntry.lacks_eq (e : RosterEntry) (p : PartNo) :
    e.lacks p = (e.standing == .joining && !e.installed.getLsbD p.val) := rfl

/-- An entry that the roster step completes is one that gains the last part. -/
theorem State.completes_eq (s : State) (p : PartNo) (t : Station) : s.completes p t =
    (s.standing t == .joining && !(s.entry t).installed.getLsbD p.val &&
      ((s.entry t).installed ||| BitVec.twoPow 13 p.val) == allPartsSet) := by
  change ((s.entry t).standing == .joining && ((s.entry t).gain p).standing == .member) =
    ((s.entry t).standing == .joining && !(s.entry t).installed.getLsbD p.val && _)
  rw [RosterEntry.gain, RosterEntry.lacks_eq, addPart]
  by_cases joining : (s.entry t).standing = .joining
  · rw [joining]
    cases (s.entry t).installed.getLsbD p.val with
    | true => simp [joining]
    | false =>
      by_cases complete : (s.entry t).installed ||| BitVec.twoPow 13 p.val = allPartsSet <;> simp [complete]
  · rw [beq_false_of_ne joining]
    rfl

/-- An entry after the roster step. -/
theorem State.gain_eq (s : State) (p : PartNo) (t : Station) : (s.entry t).gain p =
    if s.completes p t then ⟨.member, allPartsSet⟩
    else if (s.entry t).lacks p then ⟨.joining, (s.entry t).installed ||| BitVec.twoPow 13 p.val⟩ else s.entry t := by
  rw [State.completes_eq, RosterEntry.gain, RosterEntry.lacks_eq, addPart, State.standing]
  by_cases lacks : ((s.entry t).standing == .joining && !(s.entry t).installed.getLsbD p.val) = true
  · by_cases complete : (s.entry t).installed ||| BitVec.twoPow 13 p.val = allPartsSet
    · rw [if_pos lacks, if_pos complete, lacks, complete]; rfl
    · rw [if_pos lacks, if_neg complete, lacks, beq_false_of_ne complete]; rfl
  · rw [if_neg lacks, Bool.eq_false_iff.mpr lacks]; rfl

/-- An equal SNAPSHOT at a station that does not install it. -/
theorem State.applySnapshot_of_held {s : State} {content : PartContent}
    (held : s.station = .inStep ∨ s.hasInstalled content.part = true) (wasInStep : Bool) :
    s.applySnapshot content wasInStep = s.rosterStep content.part wasInStep := by
  refine if_neg fun ⟨_, joining, lacks⟩ => ?_
  rcases held with e | e
  · rw [e] at joining; cases joining
  · simp [e] at lacks

/-- Settles O50: the roster step is the frame's whole effect. -/
theorem snapshotAtInStep : Obligations.SnapshotAtInStep := by
  intro own i s f content hears body held
  have snapshot : f.body.isSnapshot = true := by rw [body]; rfl
  obtain ⟨meets, part, standing, mc⟩ : s.MeetsEqual own f ∧ s.holdsPart 0 = true ∧ s.standing f.sender = .member ∧
      s.heardMc own f = if s.station = .joining then { (s.counted own f).mc with transfer := .running 32768 }
        else (s.counted own f).mc := by
    cases own with
    | false =>
      obtain ⟨slot, station, part, sender, order, standing⟩ := (s.hearsPeer_iff f).mp hears
      refine ⟨State.meetsEqual_peer ((s.countsPeer_iff f).mpr ⟨slot, station, part, sender, order⟩) (by rw [body]; simp),
        part, standing, ?_⟩
      rcases station with e | e <;> simp [State.heardMc, State.counted_mc, e, snapshot, sender, standing]
    | true =>
      obtain ⟨sent, station, all, standing⟩ := (s.hearsSent_iff i f).mp hears
      obtain ⟨-, me, -⟩ := (s.sentFor_iff i f).mp sent
      refine ⟨State.meetsEqual_sent sent (.inl station) (by rw [body]; simp) (by rw [body]; simp),
        by rw [State.holdsPart, all]; rfl, me ▸ standing, ?_⟩
      simp [State.heardMc, State.counted_mc, station, me]
  have runs := meets.exec_of_effect
    (tu := { s.tu with roster := Vector.ofFn (fun t => (s.entry t).gain content.part) }) (mc := s.heardMc own f)
    (rs := (allStations.filter (fun t => s.station == .inStep && s.completes content.part t)).map .peerInStep)
    (cs := s.hp.claims) (a := s.hp.arrivals) (w := s.hp.watches) (fun ss tag => ?_)
  · have records : (s.counted own f).hp.claims = s.hp.claims ∧ (s.counted own f).hp.arrivals = s.hp.arrivals ∧
        (s.counted own f).hp.watches = s.hp.watches := by cases own <;> exact ⟨rfl, rfl, rfl⟩
    obtain ⟨claims, arrivals, watches⟩ := records
    have reports : (allStations.filter (fun t => s.station == .inStep && s.completes content.part t)).map .peerInStep =
        if s.station = .inStep then (allStations.filter (s.completes content.part)).map Indication.peerInStep else [] := by
      by_cases inStep : s.station = .inStep <;> simp [inStep]
    rw [runs, mc, ← claims, ← arrivals, ← watches, State.changed_indications_only, reports]
    have completes := funext (s.completes_eq content.part)
    simp only [State.gain_eq, completes]
    rfl
  · have from' : ((s.equalMet own ss f).standing f.sender == .member) = true := beq_iff_eq.mpr standing
    have applies : (s.equalMet own ss f).applyFrame own tag f =
        (s.equalMet own ss f).applySnapshot content ((s.equalMet own ss f).station == .inStep) := by
      rw [State.applyFrame, if_pos (show (s.equalMet own ss f).hasInstalled 0 = true from part), body]
      exact if_pos from'
    rw [applies, State.applySnapshot_of_held (s := s.equalMet own ss f) held, State.rosterStep_eq]
    rfl

/-! ## The first segment (R146, R149, R151) -/

/-- What the content of a first segment meets: the slot ended, the cluster known, and the transfer timer restarted. -/
def State.metSegment (s : State) : State := { s.met with mc := { s.mc with transfer := .running 32768 } }

/-- A JOINING station without a part tracks a SNAPSHOT, restarts its transfer timer and looks at the content (R149). -/
theorem State.handAccepted_first {s : State} {f : Frame} {content : PartContent} (joining : s.station = .joining)
    (empty : s.tu.installed = 0) (body : f.body = .snapshot content) : s.endSlot.handAccepted false f =
      (s.metSegment.installFirst f.sender content).countOrder
        f := by
  have counting : s.met.counting f = .track := State.counting_of_tracks (s := s.met) f (.inr (.inr (.inr ⟨joining, empty⟩)))
  have named : s.met.takeNamed false 0 f = s.met := State.takeNamed_of_not_evict _ f 0 (by rw [body]; simp)
  have apart : s.met.station ≠ .inStep := by rw [show s.met.station = .joining from joining]; decide
  have heard : s.met.hear false f = s.metSegment := by
    rw [State.hear, State.hearSilence_of_not_inStep apart, State.hearPresence_peer]
    exact State.hearTransfer_of_snapshot (s := s.met) body joining
  have stays : s.metSegment.station = s.met.station := rfl
  have stands : s.metSegment.station = .joining := joining
  calc s.endSlot.handAccepted false f
      = (((s.met.takeOwnState (s.met.counting f) false 0 f).hear false f).applyStep (s.met.counting f) s.met.station
          false 0 f).countOrder f := rfl
    _ = _ := by
      rw [counting, State.takeOwnState, named, heard, State.applyStep, if_pos stays]
      simp only [body, if_pos stands]

/-- A part 0 installed at a station without a part, and its own roster step (R147). -/
theorem State.installPart_roster {s : State} (empty : s.tu.installed = 0) (es : Vector RosterEntry 16) :
    (s.installPart (.roster es)).rosterStep 0 false =
      { s with tu := { s.tu with roster := es.map (·.gain 0), installed := 1 } } := by
  have first : addPart s.tu.installed 0 = 1 := by rw [empty]; rfl
  have installed : s.installPart (.roster es) = { s with tu := { s.tu with roster := es, installed := 1 } } := by
    have partial' : ¬ addPart s.tu.installed 0 = allPartsSet := by rw [first]; decide
    calc s.installPart (.roster es)
        = { s with tu := { s.tu with roster := es, installed := addPart s.tu.installed 0 } } := if_neg partial'
      _ = _ := by rw [first]
  have silent : allStations.filter (fun t => false &&
      State.completes 0 ({ s with tu := { s.tu with roster := es, installed := 1 } } : State) t) = [] := by
    simp
  have roster : Vector.ofFn (fun t : Station => (es[t]).gain 0) = es.map (·.gain 0) := by ext i hi; all_goals simp
  rw [installed, State.rosterStep_eq, silent]
  exact congrArg (fun r => ({ s with tu := { s.tu with roster := r, installed := 1 } } : State)) roster

/-- Settles O53: the frame is tracked, and its content is looked at after the transfer timer is restarted. -/
theorem firstSegment : Obligations.FirstSegment := by
  intro s f content slot joining empty sender body
  have runs := (exec_slotWindowEnd_of_peer slot sender).trans (congrArg _ (State.handAccepted_first joining empty body))
  refine ⟨fun other => ?_, fun entries roster => ?_⟩
  · rw [runs]
    cases content with
    | roster es => exact absurd rfl other
    | locks g ls => rfl
    | barriers g bs => rfl
    | words g ws => rfl
  · rw [roster] at runs
    refine ⟨fun stranger => ?_, fun member own lawful => ?_, fun member other => ?_⟩
    · exact runs.trans (congrArg (fun t => Host.Outcome.next (State.countOrder f t)) (if_neg stranger))
    · have installs : s.metSegment.installFirst f.sender
          (.roster entries) = (s.metSegment.installPart (.roster entries)).rosterStep 0 false :=
        (if_pos member).trans (if_pos own)
      rw [runs, installs, State.installPart_roster (s := s.metSegment) empty]
      refine congrArg (fun r => Host.Outcome.next
        { s.tracked f with
          mc := { s.mc with transfer := .running 32768 }
          tu := { s.tu with roster := r, installed := 1 } }) ?_
      refine Vector.map_congr_left fun e _ => ?_
      rw [RosterEntry.gain, RosterEntry.lacks_eq]
      simp only [Bool.and_eq_true, beq_iff_eq, Bool.not_eq_true']
      rfl
    · have loses : s.metSegment.installFirst f.sender
          (.roster entries) = s.metSegment.loseCluster :=
        (if_pos member).trans (if_neg other)
      rw [runs, loses, State.loseCluster_eq]
      rfl

end Sys2Proof.Machine
end

section
/-!
SUPPORT. The install of a part at a JOINING station (R22, R45, R141, R149): what a part replaces, what its install reports
and leaves of the local records, and the entry into IN STEP with the last part.
-/

namespace Sys2Proof.Machine

/-! ## The content of a part replaced -/

section
variable {α : Type} {n : Nat}

/-- An item after the replacement of consecutive items. -/
theorem replaceFrom_get (v : Vector α n) (base : Nat) (xs : List α) (i : Nat) (hi : i < n) :
    (replaceFrom v base xs)[i] = if base ≤ i then (xs[i - base]?).getD v[i] else v[i] := by
  induction xs generalizing v base with
  | nil => simp [replaceFrom]
  | cons x xs ih =>
    rw [replaceFrom, ih]
    by_cases here : i = base
    · subst here
      simp
    · by_cases behind : base ≤ i
      · obtain ⟨k, rfl⟩ : ∃ k, i = base + 1 + k := ⟨i - (base + 1), by omega⟩
        have apart : base ≠ base + 1 + k := by omega
        have next : base + 1 + k - base = k + 1 := by omega
        simp only [Vector.getElem_setIfInBounds, apart, next, Nat.add_sub_cancel_left, List.getElem?_cons_succ, if_false,
          Nat.le_add_right, if_true, if_pos behind]
      · have before : ¬ base + 1 ≤ i := by omega
        have apart : base ≠ i := fun e => here e.symm
        simp [behind, before, apart]

/-- The items of a part after its replacement are the part's content. -/
theorem replaceFrom_inside (v : Vector α n) {k : Nat} (g : Nat) (xs : Vector α k) (i : Nat) (hi : i < k)
    (fits : k * g + i < n) : (replaceFrom v (k * g) xs.toList)[k * g + i] = xs[i] := by
  rw [replaceFrom_get, if_pos (Nat.le_add_right _ _), Nat.add_sub_cancel_left]
  simp [hi]

/-- The items of another part stay as they are. -/
theorem replaceFrom_outside (v : Vector α n) {k : Nat} (g : Nat) (xs : Vector α k) (i : Nat) (hi : i < n)
    (other : i / k ≠ g) : (replaceFrom v (k * g) xs.toList)[i] = v[i] := by
  rw [replaceFrom_get]
  split
  · next behind =>
    have past : ¬ i - k * g < k := by
      intro within
      refine other (Nat.div_eq_of_lt_le (by rwa [Nat.mul_comm]) ?_)
      rw [Nat.succ_mul, Nat.mul_comm]
      omega
    simp [past]
  · rfl

end

/-! ## The contents of the parts after an install -/

/-- A part other than 0 is one of locks, of barriers or of words (R143). -/
theorem part_cases (q : PartNo) (notRoster : q ≠ 0) : (∃ g : Fin 8, q = ⟨1 + g.val, by omega⟩) ∨
    (∃ g : Fin 2, q = ⟨9 + g.val, by omega⟩) ∨ ∃ g : Fin 2, q = ⟨11 + g.val, by omega⟩ := by
  revert q
  decide

/-- The replica after the install of a part: the roster step, the content, the part added. -/
def TableUnit.withPart (u : TableUnit) (roster : Vector RosterEntry 16) (content : PartContent) : TableUnit :=
  let v := ({ u with roster := roster } : TableUnit).replace content
  { v with installed := addPart v.installed content.part }

section
variable (u : TableUnit) (roster : Vector RosterEntry 16) (content : PartContent)

theorem TableUnit.withPart_installed : (u.withPart roster content).installed = addPart u.installed content.part := by
  cases content <;> rfl

theorem TableUnit.withPart_roster (notRoster : content.part ≠ 0) : (u.withPart roster content).roster = roster := by
  cases content with
  | roster es => exact absurd rfl notRoster
  | locks g ls => rfl
  | barriers g bs => rfl
  | words g ws => rfl

/-- The part installed has the content it was given. -/
theorem TableUnit.content_installed (notRoster : content.part ≠ 0) :
    (u.withPart roster content).content content.part = content := by
  cases content with
  | roster es => exact absurd rfl notRoster
  | locks g ls =>
    refine (TableUnit.content_locks _ g).trans (congrArg _ ?_)
    ext i hi
    all_goals simp [TableUnit.withPart, TableUnit.replace, replaceFrom_inside _ g.val ls i hi]
  | barriers g bs =>
    refine (TableUnit.content_barriers _ g).trans (congrArg _ ?_)
    ext i hi
    all_goals simp [TableUnit.withPart, TableUnit.replace, replaceFrom_inside _ g.val bs i hi]
  | words g ws =>
    refine (TableUnit.content_words _ g).trans (congrArg _ ?_)
    ext i hi
    all_goals simp [TableUnit.withPart, TableUnit.replace, replaceFrom_inside _ g.val ws i hi]

/-- Every other part but the roster keeps its content. -/
theorem TableUnit.content_other (q : PartNo) (notRoster : q ≠ 0) (other : q ≠ content.part) :
    (u.withPart roster content).content q = u.content q := by
  have lock (g : Fin 8) (distinct : content.part ≠ ⟨1 + g.val, by omega⟩) (i : Fin 4) :
      (u.withPart roster content).locks[4 * g.val + i.val] = u.locks[4 * g.val + i.val] := by
    cases content with
    | locks k ls =>
      refine replaceFrom_outside u.locks k.val ls (4 * g.val + i.val) (by omega) fun same => distinct (Fin.ext ?_)
      change 1 + k.val = 1 + g.val
      omega
    | roster es => rfl
    | barriers k bs => rfl
    | words k ws => rfl
  have barrier (g : Fin 2) (distinct : content.part ≠ ⟨9 + g.val, by omega⟩) (i : Fin 4) :
      (u.withPart roster content).barriers[4 * g.val + i.val] = u.barriers[4 * g.val + i.val] := by
    cases content with
    | barriers k bs =>
      refine replaceFrom_outside u.barriers k.val bs (4 * g.val + i.val) (by omega) fun same => distinct (Fin.ext ?_)
      change 9 + k.val = 9 + g.val
      omega
    | roster es => rfl
    | locks k ls => rfl
    | words k ws => rfl
  have word (g : Fin 2) (distinct : content.part ≠ ⟨11 + g.val, by omega⟩) (i : Fin 8) :
      (u.withPart roster content).words[8 * g.val + i.val] = u.words[8 * g.val + i.val] := by
    cases content with
    | words k ws =>
      refine replaceFrom_outside u.words k.val ws (8 * g.val + i.val) (by omega) fun same => distinct (Fin.ext ?_)
      change 11 + k.val = 11 + g.val
      omega
    | roster es => rfl
    | locks k ls => rfl
    | barriers k bs => rfl
  rcases part_cases q notRoster with ⟨g, rfl⟩ | ⟨g, rfl⟩ | ⟨g, rfl⟩
  · rw [TableUnit.content_locks, TableUnit.content_locks]
    exact congrArg _ (congrArg _ (funext (lock g other.symm)))
  · rw [TableUnit.content_barriers, TableUnit.content_barriers]
    exact congrArg _ (congrArg _ (funext (barrier g other.symm)))
  · rw [TableUnit.content_words, TableUnit.content_words]
    exact congrArg _ (congrArg _ (funext (word g other.symm)))

end

/-! ## What the install reports, and what it leaves of the local records (R22, R45) -/

/-- A claim record after the install of its lock's part (R22): `r` is the lock installed. -/
def ClaimRecord.reconciled (me : Station) (r : LockRecord) (c : ClaimRecord) : ClaimRecord :=
  if c.phase = .waiting ∨ c.phase = .withdrawQueued then
    if r.holder = some me then { c with phase := .held } else if me ∈ r.waiters then c else c.ended
  else c

theorem State.awaits_iff (s : State) (l : LockNo) :
    s.awaits l = true ↔ (s.claim l).phase = .waiting ∨ (s.claim l).phase = .withdrawQueued := by
  simp [State.awaits]

/-- Reconciliation of one lock (R22). -/
theorem State.reconcileLock_eq (s t : State) (l : LockNo) (lock : t.lock l = s.lock l) (claim : t.claim l = s.claim l)
    (me : t.me = s.me) : t.reconcileLock l =
      ((t.setLock l (s.lock l)).setClaim l ((s.claim l).reconciled s.me (s.lock l))).indicateIf
        (s.awaits l && (s.lock l).holder == some s.me) (.granted (s.claim l).tag l) := by
  have skipped : t.setLock l (s.lock l) = t := by rw [← lock]; exact t.setLock_self l
  have unclaimed : t.setClaim l (s.claim l) = t := by rw [← claim]; exact t.setClaim_self l
  rw [skipped]
  simp only [State.reconcileLock, State.grantHere, lock, claim, me, ClaimRecord.reconciled]
  by_cases awaits : (s.claim l).phase = .waiting ∨ (s.claim l).phase = .withdrawQueued
  · have waits := (s.awaits_iff l).mpr awaits
    by_cases holder : (s.lock l).holder = some s.me
    · simp [awaits, waits, holder, State.indicateIf]
    · by_cases waiting : s.me ∈ (s.lock l).waiters <;>
        simp [awaits, waits, holder, waiting, unclaimed, State.indicateIf]
  · have free : s.awaits l = false := Bool.eq_false_iff.mpr fun w => awaits ((s.awaits_iff l).mp w)
    simp [awaits, free, unclaimed, State.indicateIf]

/-- The locks of a part, reconciled in ascending number. -/
theorem State.reconcileLocks_eq (s : State) (g : Fin 8) :
    (allLocks.filter (fun l => l.val / 4 == g.val)).foldl (fun t l => t.reconcileLock l) s =
      s.changed s.tu s.mc ((allLocks.filter (fun l => l.val / 4 == g.val && s.awaits l &&
          (s.lock l).holder == some s.me)).map (fun l => .granted (s.claim l).tag l))
        (Vector.ofFn (fun l => if l.val / 4 = g.val then (s.claim l).reconciled s.me (s.lock l) else s.claim l))
        s.hp.arrivals s.hp.watches := by
  have locks (done : List LockNo) : recordsAfter s.lock s.lock done = s.tu.locks := by
    unfold recordsAfter; ext i hi; all_goals simp [State.lock]
  have claims : recordsAfter s.claim (fun l => (s.claim l).reconciled s.me (s.lock l))
      (allLocks.filter (fun l => l.val / 4 == g.val)) =
      Vector.ofFn (fun l => if l.val / 4 = g.val then (s.claim l).reconciled s.me (s.lock l) else s.claim l) := by
    unfold recordsAfter; simp [mem_allLocks]
  have granted : ((allLocks.filter (fun l => l.val / 4 == g.val)).filter
      (fun l => s.awaits l && (s.lock l).holder == some s.me)) =
      allLocks.filter (fun l => l.val / 4 == g.val && s.awaits l && (s.lock l).holder == some s.me) := by
    rw [List.filter_filter]
    exact List.filter_congr fun l _ => by rw [Bool.and_comm, Bool.and_assoc]
  rw [s.foldl_locks s.lock (fun l => (s.claim l).reconciled s.me (s.lock l))
    (fun l => s.awaits l && (s.lock l).holder == some s.me) (allLocks_nodup.filter _)
    (fun t l lock claim me _ => State.reconcileLock_eq s t l lock claim me), State.locksAfter, locks, claims,
    granted]

/-- The evaluation of the watches, as one effect. -/
theorem State.evaluateWatches_changed (changed : Station → Bool) (s : State) : s.evaluateWatches changed =
    s.changed s.tu s.mc ((allSlots.filter (s.slotMatches changed)).map s.matchReport) s.hp.claims s.hp.arrivals
      (Vector.ofFn (fun i => (s.watch i).afterMatch (s.slotMatches changed i))) := by
  rw [State.evaluateWatches_eq]
  simp [State.changed, State.told, State.withWatches, State.onHp]

/-- A lock of the part installed. -/
theorem TableUnit.replace_lock (u : TableUnit) (g : Fin 8) (ls : Vector LockRecord 4) (l : LockNo)
    (inside : l.val / 4 = g.val) : (u.replace (.locks g ls)).locks[l] = ls[Fin.ofNat 4 l.val] := by
  have read := replaceFrom_inside u.locks g.val ls (l.val % 4) (Nat.mod_lt _ (by decide)) (by omega)
  have place : 4 * g.val + l.val % 4 = l.val := by omega
  simp only [place] at read
  exact read

/-- A word of the part installed. -/
theorem TableUnit.replace_word (u : TableUnit) (g : Fin 2) (ws : Vector Word16 8) (t : Station)
    (inside : t.val / 8 = g.val) : (u.replace (.words g ws)).words[t] = ws[Fin.ofNat 8 t.val] := by
  have read := replaceFrom_inside u.words g.val ws (t.val % 8) (Nat.mod_lt _ (by decide)) (by omega)
  have place : 8 * g.val + t.val % 8 = t.val := by omega
  simp only [place] at read
  exact read

/-- The claim records after the install of a part: those of a lock part's own locks reconciled. -/
def State.settledClaims (content : PartContent) (s : State) : Vector ClaimRecord 32 :=
  match content with
  | .locks g ls => Vector.ofFn (fun l =>
      if l.val / 4 = g.val then (s.claim l).reconciled s.me ls[Fin.ofNat 4 l.val] else s.claim l)
  | .roster _ => s.hp.claims
  | .barriers _ _ => s.hp.claims
  | .words _ _ => s.hp.claims

/-- The watch slots after the install of a part. -/
def State.settledWatches (content : PartContent) (s : State) : Vector WatchSlot 4 :=
  Vector.ofFn (fun i => (s.watch i).afterMatch (content.matched (s.watch i)))

theorem State.settledWatches_of_unmatched {content : PartContent} (s : State) (none : ∀ w, content.matched w = false) :
    s.settledWatches content = s.hp.watches := by
  ext i hi
  all_goals simp [State.settledWatches, none, WatchSlot.afterMatch, State.watch]

/-- The content in place, the records of its part are settled (R22, R45). -/
theorem State.settleInstall_eq (s : State) (u : TableUnit) (content : PartContent) :
    (s.changed (u.replace content) s.mc [] s.hp.claims s.hp.arrivals s.hp.watches).settleInstall content =
      s.changed (u.replace content) s.mc (s.installReports content) (s.settledClaims content) s.hp.arrivals
        (s.settledWatches content) := by
  cases content with
  | roster es => rw [State.settledWatches_of_unmatched s fun _ => rfl]; rfl
  | barriers g bs => rw [State.settledWatches_of_unmatched s fun _ => rfl]; rfl
  | locks g ls =>
    have lock (l : LockNo) (inside : l.val / 4 = g.val) := u.replace_lock g ls l inside
    generalize u.replace (.locks g ls) = v at *
    have reconciled := State.reconcileLocks_eq (s.changed v s.mc [] s.hp.claims s.hp.arrivals s.hp.watches) g
    have granted : allLocks.filter (fun l => l.val / 4 == g.val && s.awaits l && v.locks[l].holder == some s.me) =
        allLocks.filter (fun l => l.val / 4 == g.val && s.awaits l && ls[Fin.ofNat 4 l.val].holder == some s.me) :=
      List.filter_congr fun l _ => by
        by_cases inside : l.val / 4 = g.val
        · rw [lock l inside]
        · simp [beq_false_of_ne inside]
    have claims : (fun l : LockNo => if l.val / 4 = g.val then (s.claim l).reconciled s.me v.locks[l] else s.claim l) =
        fun l => if l.val / 4 = g.val then (s.claim l).reconciled s.me ls[Fin.ofNat 4 l.val] else s.claim l := by
      funext l
      split
      · next inside => rw [lock l inside]
      · rfl
    rw [State.changed_changed, List.nil_append] at reconciled
    refine reconciled.trans ?_
    rw [State.settledWatches_of_unmatched s fun _ => rfl, State.settledClaims, State.installReports, ← granted, ← claims]
    rfl
  | words g ws =>
    have word (t : Station) (inside : t.val / 8 = g.val) := u.replace_word g ws t inside
    generalize u.replace (.words g ws) = v at *
    have evaluated := State.evaluateWatches_changed (fun k => k.val / 8 == g.val)
      (s.changed v s.mc [] s.hp.claims s.hp.arrivals s.hp.watches)
    have test : (s.changed v s.mc [] s.hp.claims s.hp.arrivals s.hp.watches).slotMatches (fun k => k.val / 8 == g.val) =
        fun i => (PartContent.words g ws).matched (s.watch i) := by
      funext i
      change ((s.watch i).armed && (s.watch i).station.val / 8 == g.val && (s.watch i).holds v.words[(s.watch i).station]) =
        ((s.watch i).armed && (s.watch i).station.val / 8 == g.val && (s.watch i).holds _)
      by_cases inside : (s.watch i).station.val / 8 = g.val
      · rw [word _ inside]
      · simp [beq_false_of_ne inside]
    have reports : (allSlots.filter (fun i => (PartContent.words g ws).matched (s.watch i))).map
        (s.changed v s.mc [] s.hp.claims s.hp.arrivals s.hp.watches).matchReport =
        s.installReports (.words g ws) := by
      refine List.map_congr_left fun i mem => ?_
      have hit := (List.mem_filter.mp mem).2
      have inside : (s.watch i).station.val / 8 = g.val := by
        simp only [PartContent.matched, Bool.and_eq_true, beq_iff_eq] at hit
        exact hit.1.2
      exact congrArg (Indication.watchMatched _ _) (word _ inside)
    rw [test, State.changed_changed, List.nil_append, reports] at evaluated
    exact evaluated

/-! ## The install at a JOINING station that hears an equal SNAPSHOT -/

/-- IN STEP entered after an effect (R140, R141). -/
theorem State.enterInStep_changed (s : State) (tu : TableUnit) (mc : MembershipController) (rs : List Indication)
    (cs : Vector ClaimRecord 32) (a : Vector ArrivalRecord 8) (w : Vector WatchSlot 4) (cause : Cause) (tag : Octet) :
    (s.changed tu mc rs cs a w).enterInStep cause tag = s.changed tu
      { mc with
        state := .inStep, transfer := .cleared, presence := .running 4096
        silence := (s.changed tu mc rs cs a w).startSilence }
      (rs ++ [.state .inStep cause tag 0]) cs a w :=
  State.indicate_changed s tu
    { mc with
      state := .inStep, transfer := .cleared, presence := .running 4096
      silence := (s.changed tu mc rs cs a w).startSilence } rs cs a w _

/-- The silence timers that a roster gives a station that enters IN STEP (R124). -/
def silenceOf (me : Station) (roster : Vector RosterEntry 16) : Vector Timer 16 :=
  Vector.ofFn (fun t : Station => if t ≠ me ∧ roster[t].standing ≠ .absent then .running 32768 else .cleared)

theorem State.startSilence_changed (s : State) (tu : TableUnit) (mc : MembershipController) (rs : List Indication)
    (cs : Vector ClaimRecord 32) (a : Vector ArrivalRecord 8) (w : Vector WatchSlot 4) :
    (s.changed tu mc rs cs a w).startSilence = silenceOf s.me tu.roster := State.startSilence_eq _

/-- The Membership Controller after the install of a part. -/
def State.installedMc (content : PartContent) (roster : Vector RosterEntry 16) (s : State) : MembershipController :=
  if addPart s.tu.installed content.part = allPartsSet then
    { s.mc with
      state := .inStep, transfer := .cleared, presence := .running 4096, silence := silenceOf s.me roster }
  else s.mc

/-- The install of a part other than 0, as one effect (R141, R149). -/
theorem State.installPart_eq (s : State) (roster : Vector RosterEntry 16) (content : PartContent)
    (notRoster : content.part ≠ 0) :
    (s.changed { s.tu with roster := roster } s.mc [] s.hp.claims s.hp.arrivals s.hp.watches).installPart content =
      s.changed (s.tu.withPart roster content) (s.installedMc content roster) (s.joinerReports content)
        (s.settledClaims content) s.hp.arrivals (s.settledWatches content) := by
  have settled := s.settleInstall_eq { s.tu with roster := roster } content
  have complete : s.joinerReports content = s.installReports content ++
      if addPart s.tu.installed content.part = allPartsSet then [.state .inStep s.mc.joiningCause.cause 0 0] else [] := rfl
  have part := s.tu.withPart_installed roster content
  calc (s.changed { s.tu with roster := roster } s.mc [] s.hp.claims s.hp.arrivals s.hp.watches).installPart content
      = (let u := (((s.changed (({ s.tu with roster := roster } : TableUnit).replace content) s.mc [] s.hp.claims
          s.hp.arrivals s.hp.watches).settleInstall content).onTu
            (fun x => { x with installed := addPart x.installed content.part }))
        if u.tu.installed = allPartsSet then u.enterInStep u.mc.joiningCause.cause 0 else u) := rfl
    _ = (let u := s.changed (s.tu.withPart roster content) s.mc (s.installReports content) (s.settledClaims content)
          s.hp.arrivals (s.settledWatches content)
        if addPart s.tu.installed content.part = allPartsSet then u.enterInStep s.mc.joiningCause.cause 0 else u) := by
      rw [settled, ← part]; rfl
    _ = _ := by
      rw [complete, State.installedMc]
      by_cases all : addPart s.tu.installed content.part = allPartsSet
      · simp only [if_pos all]
        rw [State.enterInStep_changed, State.startSilence_changed, s.tu.withPart_roster roster content notRoster]
      · simp only [if_neg all, List.append_nil]

/-- What of the Host Port an effect changes beside the arrival records. -/
theorem State.changed_hp (s : State) (tu : TableUnit) (mc : MembershipController) (rs : List Indication)
    (cs : Vector ClaimRecord 32) (w : Vector WatchSlot 4) : (s.changed tu mc rs cs s.hp.arrivals w).hp =
      { s.hp with
        indications := (s.hp.indicateAll rs).indications, overrun := (s.hp.indicateAll rs).overrun
        claims := cs, watches := w } := by
  have frame := s.hp.indicateAll_frame rs
  rw [State.changed]
  generalize s.hp.indicateAll rs = k at *
  rw [frame]

/-- The roster after a SNAPSHOT's roster step. -/
def State.gainedRoster (p : PartNo) (s : State) : Vector RosterEntry 16 := Vector.ofFn (fun t => (s.entry t).gain p)

/-- The Membership Controller of a JOINING station after a SNAPSHOT it installs. -/
def State.segmentMc (content : PartContent) (s : State) : MembershipController :=
  if addPart s.tu.installed content.part = allPartsSet then
    { s.mc with
      state := .inStep, transfer := .cleared, presence := .running 4096
      silence := silenceOf s.me (s.gainedRoster content.part) }
  else { s.mc with transfer := .running 32768 }

/-- A JOINING station that lacks the part installs an equal SNAPSHOT. -/
theorem exec_slotWindowEnd_install {s : State} {f : Frame} {content : PartContent} (hears : s.hearsPeer f = true)
    (joining : s.station = .joining) (body : f.body = .snapshot content) (notRoster : content.part ≠ 0)
    (lacks : s.hasInstalled content.part = false) : exec (.slotWindowEnd .nothing) s = .next
      ((s.counted false f).changed (s.tu.withPart (s.gainedRoster content.part) content) (s.segmentMc content)
        (s.joinerReports content) (s.settledClaims content) s.hp.arrivals (s.settledWatches content)) := by
  obtain ⟨slot, station, part, sender, order, standing⟩ := (s.hearsPeer_iff f).mp hears
  have meets := State.meetsEqual_peer ((s.countsPeer_iff f).mpr ⟨slot, station, part, sender, order⟩)
    (by rw [body]; simp)
  refine meets.exec_of_effect fun ss tag => ?_
  have timers : (s.equalMet false ss f).installedMc content (s.gainedRoster content.part) = s.segmentMc content := by
    have heard : s.heardMc false f = { s.mc with transfer := .running 32768 } := by
      simp [State.heardMc, joining, body, FrameBody.isSnapshot]
    change (if addPart s.tu.installed content.part = allPartsSet then _ else s.heardMc false f) = _
    rw [State.segmentMc, ← heard]
    rfl
  have from' : ((s.equalMet false ss f).standing f.sender == .member) = true := beq_iff_eq.mpr standing
  have apart : ((s.equalMet false ss f).station == .inStep) = false :=
    beq_false_of_ne (by rw [show (s.equalMet false ss f).station = .joining from joining]; decide)
  have applies : (s.equalMet false ss f).applyFrame false tag f =
      (s.equalMet false ss f).applySnapshot content false := by
    rw [State.applyFrame, if_pos (show (s.equalMet false ss f).hasInstalled 0 = true from part), body, apart]
    exact if_pos from'
  have silent : allStations.filter (fun t => false && (s.equalMet false ss f).completes content.part t) = [] := by simp
  have stepped : (s.equalMet false ss f).rosterStep content.part false =
      (s.equalMet false ss f).changed { s.tu with roster := s.gainedRoster content.part } (s.equalMet false ss f).mc []
        s.hp.claims s.hp.arrivals s.hp.watches := by
    rw [State.rosterStep_eq, silent]; rfl
  have installs : content.part ≠ 0 ∧ (s.equalMet false ss f).station = .joining ∧
      (!(s.equalMet false ss f).hasInstalled content.part) = true :=
    ⟨notRoster, joining, by rw [show (s.equalMet false ss f).hasInstalled content.part = false from lacks]; rfl⟩
  rw [applies, ← timers]
  refine (if_pos installs).trans ?_
  rw [stepped]
  exact (s.equalMet false ss f).installPart_eq (s.gainedRoster content.part) content notRoster

/-- A claim record of another part's lock is not settled by an install. -/
theorem State.settledClaims_other {content : PartContent} (s : State) (l : LockNo)
    (other : 1 + l.val / 4 ≠ content.part.val) : (s.settledClaims content)[l] = s.claim l := by
  cases content with
  | locks g ls =>
    have apart : l.val / 4 ≠ g.val := fun e => other (congrArg (1 + ·) e)
    simp [State.settledClaims, apart]
  | roster es => rfl
  | barriers g bs => rfl
  | words g ws => rfl

theorem State.settledWatches_get (s : State) (content : PartContent) (i : SlotNo) : (s.settledWatches content)[i] =
    if content.matched (s.watch i) then { s.watch i with armed := false, tag := 0 } else s.watch i := by
  simp [State.settledWatches, WatchSlot.afterMatch]

/-- Settles O51: the install is one effect, read field by field. -/
theorem joinerInstallsPart : Obligations.JoinerInstallsPart := by
  intro s f content hears joining body notRoster lacks
  have station : (s.counted false f).station = .joining := by rw [State.counted_station]; exact joining
  refine ⟨_, exec_slotWindowEnd_install hears joining body notRoster lacks, ?_⟩
  generalize taken : (s.counted false f).changed (s.tu.withPart (s.gainedRoster content.part) content) (s.segmentMc content)
    (s.joinerReports content) (s.settledClaims content) s.hp.arrivals (s.settledWatches content) = t
  have tu : t.tu = s.tu.withPart (s.gainedRoster content.part) content := taken ▸ rfl
  have mc : t.mc = s.segmentMc content := taken ▸ rfl
  have hp : t.hp = { s.hp with
      indications := (s.hp.indicateAll (s.joinerReports content)).indications
      overrun := (s.hp.indicateAll (s.joinerReports content)).overrun
      claims := s.settledClaims content, watches := s.settledWatches content } :=
    taken ▸ State.changed_hp (s.counted false f) _ _ _ _ _
  have whole : t = { s with
      le := ⟨.idle, 0, s.le.yieldFlag, []⟩, au := ⟨s.au.order + 1, true, false, [], none⟩, tu := t.tu, mc := t.mc
      hp := t.hp } := taken ▸ rfl
  have silence (k : Station) : (silenceOf s.me (s.gainedRoster content.part))[k] =
      if k ≠ s.me ∧ t.standing k ≠ .absent then .running 32768 else .cleared := by
    rw [State.standing, State.entry, tu, TableUnit.withPart_roster _ _ _ notRoster]
    simp [silenceOf]
  refine ⟨?_, ?_, ?_, ?_, ?_, ?_, ?_, ?_, ?_, ?_, ?_, ?_, ?_, ?_⟩
  · rw [tu, TableUnit.withPart_installed]; rfl
  · rw [tu]; exact TableUnit.content_installed _ _ _ notRoster
  · intro q apart other
    rw [tu]; exact TableUnit.content_other _ _ _ q apart other
  · intro k
    rw [State.entry, tu, TableUnit.withPart_roster _ _ _ notRoster]
    simp [State.gainedRoster]
  · rw [whole]
  · rw [whole]
  · rw [whole]
  · have timers : t.mc = { s.mc with
        state := t.mc.state, presence := t.mc.presence, transfer := t.mc.transfer, silence := t.mc.silence } := by
      rw [mc, State.segmentMc]; split <;> rfl
    have port : t.hp = { s.hp with
        indications := t.hp.indications, overrun := t.hp.overrun, claims := t.hp.claims, watches := t.hp.watches } := by
      rw [hp]
    rw [← timers, ← port]
    rw [whole]
  · intro l other
    rw [State.claim, hp]
    exact State.settledClaims_other s l other
  · rw [hp]
  · rw [hp]
  · intro i
    rw [State.watch, hp]
    exact s.settledWatches_get content i
  · intro more
    have same : t.mc = { s.mc with transfer := .running 32768 } := by rw [mc, State.segmentMc]; exact if_neg more
    rw [State.station, same]
    exact ⟨joining, rfl, rfl, rfl⟩
  · intro all
    have entered : t.mc = { s.mc with
        state := .inStep, transfer := .cleared, presence := .running 4096
        silence := silenceOf s.me (s.gainedRoster content.part) } := by
      rw [mc, State.segmentMc]; exact if_pos all
    rw [State.station, entered]
    exact ⟨rfl, rfl, rfl, silence⟩

/-! ## A lock part's own locks (R22) -/

theorem map_filter_eq_filterMap {α β : Type} (p : α → Bool) (f : α → β) (l : List α) :
    (l.filter p).map f = l.filterMap (fun a => if p a then some (f a) else none) := by
  induction l with
  | nil => rfl
  | cons a l ih => cases h : p a <;> simp [h, ih]

/-- Lock `i` of a lock part. -/
def lockOf (g : Fin 8) (i : Fin 4) : LockNo := ⟨4 * g.val + i.val, by omega⟩

/-- The locks of a part, in ascending number. -/
theorem locks_of_part (g : Fin 8) :
    allLocks.filter (fun l => l.val / 4 == g.val) = ([0, 1, 2, 3] : List (Fin 4)).map (lockOf g) := by
  revert g
  decide

theorem lockOf_part (g : Fin 8) (i : Fin 4) : (lockOf g i).val / 4 = g.val := by
  simp only [lockOf]; omega

theorem lockOf_index (g : Fin 8) (i : Fin 4) : Fin.ofNat 4 (lockOf g i).val = i := by
  ext
  simp only [lockOf, Fin.ofNat]
  omega

/-- The late GRANTED indications, lock by lock of the part. -/
theorem State.installReports_locks (s : State) (g : Fin 8) (ls : Vector LockRecord 4) :
    s.installReports (.locks g ls) = ([0, 1, 2, 3] : List (Fin 4)).filterMap (fun i =>
      if s.awaits (lockOf g i) && ls[i].holder == some s.me then
        some (Indication.granted (s.claim (lockOf g i)).tag (lockOf g i)) else none) := by
  have split : allLocks.filter (fun l => l.val / 4 == g.val && s.awaits l &&
      ls[Fin.ofNat 4 l.val].holder == some s.me) = (([0, 1, 2, 3] : List (Fin 4)).map (lockOf g)).filter
        (fun l => s.awaits l && ls[Fin.ofNat 4 l.val].holder == some s.me) := by
    rw [← locks_of_part, List.filter_filter]
    exact List.filter_congr fun l _ => by rw [Bool.and_assoc, Bool.and_comm]
  rw [State.installReports, split, map_filter_eq_filterMap, List.filterMap_map]
  refine List.filterMap_congr fun i _ => ?_
  simp only [Function.comp, lockOf_index]

/-- A claim record of the part's own locks after the install. -/
theorem State.settledClaims_lock (s : State) (g : Fin 8) (ls : Vector LockRecord 4) (i : Fin 4) :
    (s.settledClaims (.locks g ls))[lockOf g i] = (s.claim (lockOf g i)).reconciled s.me ls[i] := by
  have inside : (s.settledClaims (.locks g ls))[lockOf g i] =
      (s.claim (lockOf g i)).reconciled s.me ls[Fin.ofNat 4 (lockOf g i).val] := by
    simp [State.settledClaims, lockOf_part g i]
  exact inside.trans (congrArg (fun k : Fin 4 => (s.claim (lockOf g i)).reconciled s.me ls[k]) (lockOf_index g i))

/-- The cases of a reconciliation (R22). -/
theorem State.reconciled_cases (s : State) (l : LockNo) (r : LockRecord) :
    (s.awaits l = true → r.holder = some s.me → (s.claim l).reconciled s.me r = { s.claim l with phase := .held }) ∧
    (s.awaits l = true → r.holder ≠ some s.me → s.me ∉ r.waiters →
      (s.claim l).reconciled s.me r = { s.claim l with phase := .none, tag := 0 }) ∧
    (s.awaits l = false ∨ (r.holder ≠ some s.me ∧ s.me ∈ r.waiters) → (s.claim l).reconciled s.me r = s.claim l) := by
  refine ⟨fun awaits holder => ?_, fun awaits other absent => ?_, fun kept => ?_⟩
  · rw [ClaimRecord.reconciled, if_pos ((s.awaits_iff l).mp awaits), if_pos holder]
  · rw [ClaimRecord.reconciled, if_pos ((s.awaits_iff l).mp awaits), if_neg other, if_neg absent, ClaimRecord.ended]
  · rcases kept with free | ⟨other, waits⟩
    · exact if_neg fun awaits => by simp [(s.awaits_iff l).mpr awaits] at free
    · rw [ClaimRecord.reconciled, if_neg other, if_pos waits, ite_self]

/-- Settles O52: the locks and the claim records of the part, read from the install. -/
theorem lockPartReconciled : Obligations.LockPartReconciled := by
  intro s f g records hears joining body lacks
  have notRoster : (PartContent.locks g records).part ≠ 0 := fun e => by
    have number : 1 + g.val = 0 := congrArg Fin.val e
    omega
  refine ⟨_, exec_slotWindowEnd_install hears joining body notRoster lacks, ?_⟩
  generalize taken : (s.counted false f).changed (s.tu.withPart (s.gainedRoster (PartContent.locks g records).part)
    (.locks g records)) (s.segmentMc (.locks g records)) (s.joinerReports (.locks g records))
    (s.settledClaims (.locks g records)) s.hp.arrivals (s.settledWatches (.locks g records)) = t
  have locks : t.tu.locks = (s.tu.replace (.locks g records)).locks := taken ▸ rfl
  have hp : t.hp = { s.hp with
      indications := (s.hp.indicateAll (s.joinerReports (.locks g records))).indications
      overrun := (s.hp.indicateAll (s.joinerReports (.locks g records))).overrun
      claims := s.settledClaims (.locks g records), watches := s.settledWatches (.locks g records) } :=
    taken ▸ State.changed_hp (s.counted false f) _ _ _ _ _
  have reports := s.installReports_locks g records
  have claim (i : Fin 4) : t.claim (lockOf g i) = (s.claim (lockOf g i)).reconciled s.me records[i] := by
    rw [State.claim, hp]
    exact s.settledClaims_lock g records i
  refine ⟨by rw [hp, State.joinerReports, reports]; rfl, by rw [hp, State.joinerReports, reports]; rfl, fun i => ⟨?_, ?_⟩,
    fun k apart => ⟨?_, ?_⟩⟩
  · change t.tu.locks[lockOf g i] = _
    rw [locks, TableUnit.replace_lock _ _ _ _ (lockOf_part g i)]
    exact congrArg (fun k : Fin 4 => records[k]) (lockOf_index g i)
  · change (_ → _ → t.claim (lockOf g i) = _) ∧ (_ → _ → _ → t.claim (lockOf g i) = _) ∧ (_ → t.claim (lockOf g i) = _)
    rw [claim]
    exact s.reconciled_cases (lockOf g i) records[i]
  · rw [State.lock, locks]
    exact replaceFrom_outside s.tu.locks g.val records k.val k.isLt apart
  · rw [State.claim, hp]
    refine s.settledClaims_other (content := .locks g records) k fun e => apart ?_
    have number : 1 + k.val / 4 = 1 + g.val := e
    omega

end Sys2Proof.Machine
end

section
/-!
SUPPORT. The frame codec (R65 to R68, R73 to R76, R178, R179): each record read back from its octets, and each record read
written by the octets it was read from. Then a frame's body, its length, and its classification.
-/

namespace Sys2Proof.Machine

/-! ## Octets -/

theorem octetOf_toNat {n : Nat} (small : n < 256) : (octetOf n).toNat = n := by
  simp [octetOf, Nat.mod_eq_of_lt small]

theorem octetOf_of_toNat (o : Octet) : octetOf o.toNat = o := by
  simp [octetOf]

theorem word16_octets (w : Word16) : word16 (highOctet w) (lowOctet w) = w :=
  BitVec.extractLsb'_append_extractLsb' (w := 8) (len := 8)

theorem word16_toNat (high low : Octet) : (word16 high low).toNat = high.toNat * 256 + low.toNat := by
  have bits : (word16 high low).toNat = high.toNat <<< 8 ||| low.toNat := BitVec.toNat_append high low
  rw [bits, ← Nat.shiftLeft_add_eq_or_of_lt low.isLt, Nat.shiftLeft_eq]

theorem highOctet_toNat (w : Word16) : (highOctet w).toNat = w.toNat / 256 := by
  have bits : (highOctet w).toNat = (w.toNat >>> 8) % 2 ^ 8 := BitVec.extractLsb'_toNat 8 8 w
  have small := w.isLt
  rw [bits, Nat.shiftRight_eq_div_pow]
  omega

theorem lowOctet_toNat (w : Word16) : (lowOctet w).toNat = w.toNat % 256 := BitVec.extractLsb'_toNat 0 8 w

theorem highOctet_word16 (high low : Octet) : highOctet (word16 high low) = high := by
  refine BitVec.eq_of_toNat_eq ?_
  have small := low.isLt
  rw [highOctet_toNat, word16_toNat]
  omega

theorem lowOctet_word16 (high low : Octet) : lowOctet (word16 high low) = low := by
  refine BitVec.eq_of_toNat_eq ?_
  have small := low.isLt
  rw [lowOctet_toNat, word16_toNat]
  omega

theorem octetOfFin_of_read {n : Nat} {o : Octet} {i : Fin n} (read : finOfOctet n o = some i) : o = octetOfFin i := by
  unfold finOfOctet at read
  split at read
  · obtain rfl := Option.some.inj read
    exact (octetOf_of_toNat o).symm
  · cases read

/-! ## A record's octets and its reader -/

/-- A reader gives a lawful record back from its octets, and reads only lawful records, from their octets. -/
structure Codec {α : Type} (lawful : α → Bool) (write : α → List Octet)
    (read : List Octet → Option (α × List Octet)) : Prop where
  read_write : ∀ a rest, lawful a = true → read (write a ++ rest) = some (a, rest)
  of_read : ∀ {os a rest}, read os = some (a, rest) → os = write a ++ rest ∧ lawful a = true

section
variable {α : Type} {lawful : α → Bool} {write : α → List Octet} {read : List Octet → Option (α × List Octet)}

theorem Codec.readMany_write (codec : Codec lawful write read) (xs : List α) (rest : List Octet)
    (all : ∀ x ∈ xs, lawful x = true) : readMany read xs.length (xs.flatMap write ++ rest) = some (xs, rest) := by
  induction xs with
  | nil => rfl
  | cons x xs ih =>
    obtain ⟨first, others⟩ := List.forall_mem_cons.mp all
    rw [List.flatMap_cons, List.append_assoc, List.length_cons, readMany, codec.read_write x _ first]
    simp only [ih others]

theorem Codec.of_readMany (codec : Codec lawful write read) {n : Nat} {os : List Octet} {xs : List α}
    {rest : List Octet} (reads : readMany read n os = some (xs, rest)) :
    os = xs.flatMap write ++ rest ∧ xs.length = n ∧ ∀ x ∈ xs, lawful x = true := by
  induction n generalizing os xs with
  | zero =>
    obtain ⟨rfl, rfl⟩ := Prod.mk.inj (Option.some.inj reads)
    exact ⟨rfl, rfl, fun x mem => by cases mem⟩
  | succ n ih =>
    rw [readMany] at reads
    split at reads
    · cases reads
    · next x left first =>
      split at reads
      · cases reads
      · next ys last others =>
        obtain ⟨rfl, rfl⟩ := Prod.mk.inj (Option.some.inj reads)
        obtain ⟨rfl, law⟩ := codec.of_read first
        obtain ⟨rfl, length, laws⟩ := ih others
        refine ⟨by rw [List.flatMap_cons, List.append_assoc], by rw [List.length_cons, length], ?_⟩
        exact List.forall_mem_cons.mpr ⟨law, laws⟩

theorem Codec.readAll_write (codec : Codec lawful write read) {n : Nat} (v : Vector α n)
    (all : v.toList.all lawful = true) : readAll read n (v.toList.flatMap write) = some v := by
  have many := codec.readMany_write v.toList [] (List.all_eq_true.mp all)
  rw [Vector.length_toList, List.append_nil] at many
  rw [readAll, many]
  exact dif_pos v.size_toArray

theorem Codec.of_readAll (codec : Codec lawful write read) {n : Nat} {os : List Octet} {v : Vector α n}
    (reads : readAll read n os = some v) : os = v.toList.flatMap write ∧ v.toList.all lawful = true := by
  rw [readAll] at reads
  split at reads
  · next xs many =>
    obtain ⟨rfl, length, laws⟩ := codec.of_readMany many
    unfold vectorOf at reads
    rw [dif_pos length] at reads
    obtain rfl := Option.some.inj reads
    exact ⟨by simp, by simpa using laws⟩
  · cases reads

end

/-! ## The records of Table 12-3 -/

theorem Standing.ofCode_code (st : Standing) : Standing.ofCode st.code = some st := by
  cases st <;> rfl

theorem Standing.code_of_read {o : Octet} {st : Standing} (read : Standing.ofCode o = some st) : o = st.code := by
  unfold Standing.ofCode at read
  split at read
  · next code => obtain rfl := Option.some.inj read; exact code
  · split at read
    · next code => obtain rfl := Option.some.inj read; exact code
    · split at read
      · next code => obtain rfl := Option.some.inj read; exact code
      · cases read

theorem partSetWord_small (set : PartSet) : (partSetWord set).toNat < 8192 := by
  have small := set.isLt
  have value : (partSetWord set).toNat = set.toNat % 2 ^ 16 := BitVec.toNat_setWidth 16 set
  omega

theorem partSetWord_read (set : PartSet) : (partSetWord set).setWidth 13 = set := by
  refine BitVec.eq_of_toNat_eq ?_
  have small := set.isLt
  have value : (partSetWord set).toNat = set.toNat % 2 ^ 16 := BitVec.toNat_setWidth 16 set
  rw [BitVec.toNat_setWidth, value]
  omega

theorem partSetWord_of_small {w : Word16} (small : w.toNat < 8192) : partSetWord (w.setWidth 13) = w := by
  refine BitVec.eq_of_toNat_eq ?_
  have value : (partSetWord (w.setWidth 13)).toNat = (w.setWidth 13).toNat % 2 ^ 16 := BitVec.toNat_setWidth 16 _
  have narrow : (w.setWidth 13).toNat = w.toNat % 2 ^ 13 := BitVec.toNat_setWidth 13 w
  rw [value, narrow]
  omega

/-- Roster entries (R75). -/
theorem codec_rosterEntry : Codec RosterEntry.lawful rosterEntryOctets readRosterEntry where
  read_write e rest law := by
    have word := word16_octets (partSetWord e.installed)
    change readRosterEntry (e.standing.code :: highOctet _ :: lowOctet _ :: rest) = _
    rw [readRosterEntry, Standing.ofCode_code]
    simp only [word, partSetWord_read, partSetWord_small, law, decide_true, Bool.and_self, if_true]
  of_read {os e rest} read := by
    unfold readRosterEntry at read
    split at read
    · next standing high low left =>
      split at read
      · cases read
      · next st code =>
        simp only [Bool.and_eq_true, decide_eq_true_eq] at read
        split at read
        · next fits =>
          obtain ⟨rfl, rfl⟩ := Prod.mk.inj (Option.some.inj read)
          refine ⟨?_, fits.2⟩
          rw [rosterEntryOctets, partSetWord_of_small fits.1, highOctet_word16, lowOctet_word16,
            ← Standing.code_of_read code]
          rfl
        · cases read
    · cases read

/-- Barrier records (R75). -/
theorem codec_barrier : Codec BarrierRecord.lawful barrierOctets readBarrier where
  read_write b rest law := by
    have count : (octetOf b.partyCount).toNat = b.partyCount := octetOf_toNat (by
      unfold BarrierRecord.lawful at law
      split at law
      · next none => omega
      · simp only [Bool.and_eq_true, decide_eq_true_eq] at law; omega)
    change readBarrier (b.generation :: octetOf b.partyCount :: highOctet _ :: lowOctet _ :: rest) = _
    rw [readBarrier, word16_octets, count]
    exact if_pos law
  of_read {os b rest} read := by
    unfold readBarrier at read
    split at read
    · next g c high low left =>
      simp only at read
      split at read
      · next law =>
        obtain ⟨rfl, rfl⟩ := Prod.mk.inj (Option.some.inj read)
        refine ⟨?_, law⟩
        rw [barrierOctets, highOctet_word16, lowOctet_word16, octetOf_of_toNat]
        rfl
      · cases read
    · cases read

/-- Status words (R75). -/
theorem codec_word : Codec (fun _ => true) wordOctets readWord where
  read_write w rest _ := by
    change some (word16 (highOctet w) (lowOctet w), rest) = _
    rw [word16_octets]
  of_read {os w rest} read := by
    unfold readWord at read
    split at read
    · next high low left =>
      obtain ⟨rfl, rfl⟩ := Prod.mk.inj (Option.some.inj read)
      rw [wordOctets, highOctet_word16, lowOctet_word16]
      exact ⟨rfl, rfl⟩
    · cases read

/-- The stations of a wait queue. -/
theorem codec_station : Codec (fun _ : Station => true) (fun t => [octetOfFin t]) (fun
    | o :: rest => (finOfOctet 16 o).map (fun s => (s, rest))
    | [] => none) where
  read_write t rest _ := by
    change (finOfOctet 16 (octetOfFin t)).map _ = _
    rw [finOfOctet_octetOfFin (by decide)]
    rfl
  of_read {os t rest} read := by
    split at read
    · next o left =>
      obtain ⟨k, code, eq⟩ := Option.map_eq_some_iff.mp read
      obtain ⟨rfl, rfl⟩ := Prod.mk.inj eq
      rw [octetOfFin_of_read code]
      exact ⟨rfl, rfl⟩
    · cases read

theorem readHolder_octet (holder : Option Station) : readHolder (holderOctet holder) = some holder := by
  cases holder with
  | none => rfl
  | some t =>
    have notNone : octetOfFin t ≠ 0xFF := by decide +revert
    rw [holderOctet, readHolder, if_neg notNone, finOfOctet_octetOfFin (by decide)]
    rfl

theorem holderOctet_of_read {o : Octet} {holder : Option Station} (read : readHolder o = some holder) :
    o = holderOctet holder := by
  unfold readHolder at read
  split at read
  · next none => obtain rfl := Option.some.inj read; exact none
  · obtain ⟨t, code, rfl⟩ := Option.map_eq_some_iff.mp read
    exact octetOfFin_of_read code

theorem LockRecord.waiters_le {l : LockRecord} (law : l.lawful = true) : l.waiters.length ≤ 15 := by
  simp only [LockRecord.lawful, Bool.and_eq_true, decide_eq_true_eq] at law
  exact law.1.2

/-- Lock records (R75). -/
theorem codec_lock : Codec LockRecord.lawful lockOctets readLock where
  read_write l rest law := by
    have few := LockRecord.waiters_le law
    have count : (octetOf l.waiters.length).toNat = l.waiters.length := octetOf_toNat (by omega)
    have queue : readQueue l.waiters.length (l.waiters.map octetOfFin ++ rest) = some (l.waiters, rest) := by
      have many := codec_station.readMany_write l.waiters rest fun _ _ => rfl
      rwa [← List.map_eq_flatMap] at many
    change readLock (holderOctet l.holder :: octetOf l.waiters.length :: (l.waiters.map octetOfFin ++ rest)) = _
    rw [readLock, readHolder_octet]
    simp only [count, queue, if_pos few]
    exact if_pos law
  of_read {os l rest} read := by
    unfold readLock at read
    split at read
    · next holder n left =>
      split at read
      · cases read
      · next h code =>
        split at read
        · split at read
          · cases read
          · next q last queue =>
            simp only at read
            split at read
            · next law =>
              obtain ⟨rfl, rfl⟩ := Prod.mk.inj (Option.some.inj read)
              obtain ⟨rfl, length, -⟩ := codec_station.of_readMany queue
              refine ⟨?_, law⟩
              rw [lockOctets, ← holderOctet_of_read code, length, octetOf_of_toNat, ← List.map_eq_flatMap]
              rfl
            · cases read
        · cases read
    · cases read

/-! ## The content of a part -/

theorem readContent_octets (content : PartContent) (law : content.lawful = true) :
    readContent content.part.val content.octets = some content := by
  cases content with
  | roster es =>
    change (readAll readRosterEntry 16 _).map PartContent.roster = _
    rw [PartContent.octets, codec_rosterEntry.readAll_write es law]
    rfl
  | locks g ls =>
    have inside : 1 ≤ 1 + g.val ∧ 1 + g.val ≤ 8 := by omega
    have index : (⟨1 + g.val - 1, by omega⟩ : Fin 8) = g := Fin.ext (by simp)
    have reads : readContent (1 + g.val) (PartContent.locks g ls).octets =
        (readAll readLock 4 (PartContent.locks g ls).octets).map (.locks ⟨1 + g.val - 1, by omega⟩) := by
      rw [readContent, if_neg (by omega), dif_pos inside]
    change readContent (1 + g.val) _ = _
    rw [reads, PartContent.octets, codec_lock.readAll_write ls law, index]
    rfl
  | barriers g bs =>
    have inside : 9 ≤ 9 + g.val ∧ 9 + g.val ≤ 10 := by omega
    have index : (⟨9 + g.val - 9, by omega⟩ : Fin 2) = g := Fin.ext (by simp)
    have reads : readContent (9 + g.val) (PartContent.barriers g bs).octets =
        (readAll readBarrier 4 (PartContent.barriers g bs).octets).map (.barriers ⟨9 + g.val - 9, by omega⟩) := by
      rw [readContent, if_neg (by omega), dif_neg (by omega), dif_pos inside]
    change readContent (9 + g.val) _ = _
    rw [reads, PartContent.octets, codec_barrier.readAll_write bs law, index]
    rfl
  | words g ws =>
    have inside : 11 ≤ 11 + g.val ∧ 11 + g.val ≤ 12 := by omega
    have index : (⟨11 + g.val - 11, by omega⟩ : Fin 2) = g := Fin.ext (by simp)
    have reads : readContent (11 + g.val) (PartContent.words g ws).octets =
        (readAll readWord 8 (PartContent.words g ws).octets).map (.words ⟨11 + g.val - 11, by omega⟩) := by
      rw [readContent, if_neg (by omega), dif_neg (by omega), dif_neg (by omega), dif_pos inside]
    change readContent (11 + g.val) _ = _
    rw [reads, PartContent.octets, codec_word.readAll_write ws (by simp), index]
    rfl

theorem of_readContent {p : Nat} {os : List Octet} {content : PartContent} (read : readContent p os = some content) :
    p = content.part.val ∧ os = content.octets ∧ content.lawful = true := by
  unfold readContent at read
  split at read
  · next roster =>
    obtain ⟨es, reads, rfl⟩ := Option.map_eq_some_iff.mp read
    exact ⟨roster, codec_rosterEntry.of_readAll reads⟩
  · split at read
    · next inside =>
      obtain ⟨ls, reads, rfl⟩ := Option.map_eq_some_iff.mp read
      refine ⟨?_, codec_lock.of_readAll reads⟩
      simp only [PartContent.part]; omega
    · split at read
      · next inside =>
        obtain ⟨bs, reads, rfl⟩ := Option.map_eq_some_iff.mp read
        refine ⟨?_, codec_barrier.of_readAll reads⟩
        simp only [PartContent.part]; omega
      · split at read
        · next inside =>
          obtain ⟨ws, reads, rfl⟩ := Option.map_eq_some_iff.mp read
          refine ⟨?_, (codec_word.of_readAll reads).1, rfl⟩
          simp only [PartContent.part]; omega
        · cases read

theorem length_flatMap_const {α : Type} (write : α → List Octet) (k : Nat) (each : ∀ a, (write a).length = k)
    (l : List α) : (l.flatMap write).length = l.length * k := by
  induction l with
  | nil => simp
  | cons a l ih => rw [List.flatMap_cons, List.length_append, ih, each, List.length_cons, Nat.succ_mul, Nat.add_comm]

/-- The length of a lock part's content (R178). -/
theorem length_lockOctets (l : List LockRecord) :
    (l.flatMap lockOctets).length = l.length * 2 + (l.map (fun r => r.waiters.length)).sum := by
  induction l with
  | nil => rfl
  | cons r l ih =>
    rw [List.flatMap_cons, List.length_append, ih]
    simp only [lockOctets, List.length_cons, List.length_map, List.map_cons, List.sum_cons]
    omega

/-! The length of each content (Table 12-3). -/

theorem length_roster (es : Vector RosterEntry 16) : (PartContent.roster es).octets.length = 48 := by
  simp [PartContent.octets, length_flatMap_const rosterEntryOctets 3 fun _ => rfl]

theorem length_locks (g : Fin 8) (ls : Vector LockRecord 4) : (PartContent.locks g ls).octets.length =
    8 + (ls.toList.map (fun r => r.waiters.length)).sum := by
  rw [PartContent.octets, length_lockOctets, Vector.length_toList]

theorem length_barriers (g : Fin 2) (bs : Vector BarrierRecord 4) : (PartContent.barriers g bs).octets.length = 16 := by
  simp [PartContent.octets, length_flatMap_const barrierOctets 4 fun _ => rfl]

theorem length_words (g : Fin 2) (ws : Vector Word16 8) : (PartContent.words g ws).octets.length = 16 := by
  simp [PartContent.octets, length_flatMap_const wordOctets 2 fun _ => rfl]

/-- A lawful content is at most 68 octets long (R68). -/
theorem length_content_le (content : PartContent) (law : content.lawful = true) : content.octets.length ≤ 68 := by
  cases content with
  | roster es => rw [length_roster]; omega
  | barriers g bs => rw [length_barriers]; omega
  | words g ws => rw [length_words]; omega
  | locks g ls =>
    have few : ∀ n ∈ ls.toList.map (fun r => r.waiters.length), n ≤ 15 := by
      intro n mem
      obtain ⟨r, inside, rfl⟩ := List.mem_map.mp mem
      exact LockRecord.waiters_le (List.all_eq_true.mp law r inside)
    have sum := List.sum_le_card_nsmul _ 15 few
    simp only [List.length_map, Vector.length_toList, smul_eq_mul] at sum
    rw [length_locks]
    omega

/-! ## The body and the fields of a frame -/

theorem octetOf_part (p : PartNo) : (octetOfFin p).toNat = p.val := octetOf_toNat (by omega)

theorem claimOctet_toNat (l : LockNo) (v : Flavour) : (octetOf (v.code * 64 + l.val)).toNat = v.code * 64 + l.val :=
  octetOf_toNat (by cases v <;> simp only [Flavour.code] <;> omega)

theorem readBody_claim {x : Octet} (l : LockNo) (v : Flavour) (value : x.toNat = v.code * 64 + l.val) :
    readBody 6 [x] = some (.claim l v) := by
  have lock : x.toNat % 64 = l.val := by omega
  have flavour : x.toNat / 64 = v.code := by omega
  have inside : x.toNat % 64 < 32 := by omega
  have index : (⟨x.toNat % 64, inside⟩ : LockNo) = l := Fin.ext lock
  have reads : readBody 6 [x] = if x.toNat / 64 = 0 then some (.claim ⟨x.toNat % 64, inside⟩ .wait)
      else if x.toNat / 64 = 1 then some (.claim ⟨x.toNat % 64, inside⟩ .tryOnce) else none := dif_pos inside
  rw [reads, flavour, index]
  cases v <;> rfl

theorem readBody_octets (body : FrameBody) (law : body.lawful = true) :
    readBody body.kindCode body.octets = some body := by
  cases body with
  | evict t => exact congrArg (Option.map FrameBody.evict) (finOfOctet_octetOfFin (by decide) t)
  | leave => rfl
  | resync => rfl
  | join found => cases found <;> rfl
  | release l => exact congrArg (Option.map FrameBody.release) (finOfOctet_octetOfFin (by decide) l)
  | withdraw l => exact congrArg (Option.map FrameBody.withdraw) (finOfOctet_octetOfFin (by decide) l)
  | claim l v =>
    exact readBody_claim l v (claimOctet_toNat l v)
  | abandon b g => exact congrArg (Option.map fun b => FrameBody.abandon b g) (finOfOctet_octetOfFin (by decide) b)
  | arrive b c =>
    simp only [FrameBody.lawful, Bool.and_eq_true, decide_eq_true_eq] at law
    have value : (octetOf c).toNat = c := octetOf_toNat (by omega)
    change (if 2 ≤ (octetOf c).toNat ∧ (octetOf c).toNat ≤ 16 then
      (finOfOctet 8 (octetOfFin b)).map (fun b => FrameBody.arrive b (octetOf c).toNat) else none) = _
    rw [value, if_pos law, finOfOctet_octetOfFin (by decide)]
    rfl
  | publish v => exact congrArg (fun w => some (FrameBody.publish w)) (word16_octets v)
  | post t k => exact congrArg (Option.map fun t => FrameBody.post t k) (finOfOctet_octetOfFin (by decide) t)
  | snapshot content =>
    have short := length_content_le content law
    have count : (octetOf content.octets.length).toNat = content.octets.length := octetOf_toNat (by omega)
    change (if (octetOf content.octets.length).toNat = content.octets.length then
      (readContent (octetOfFin content.part).toNat content.octets).map FrameBody.snapshot else none) = _
    rw [if_pos count, octetOf_part, readContent_octets content law]
    rfl
  | presence => rfl

/-- A number read as a station, lock or barrier, in the octets it was read from. -/
theorem of_map_finOfOctet {n : Nat} {o : Octet} {make : Fin n → FrameBody} {body : FrameBody}
    (read : (finOfOctet n o).map make = some body) : ∃ i, body = make i ∧ o = octetOfFin i := by
  obtain ⟨i, code, rfl⟩ := Option.map_eq_some_iff.mp read
  exact ⟨i, rfl, octetOfFin_of_read code⟩

/-- What a body read is: of the frame's kind, written by the octets read, and lawful. -/
def FrameBody.readAs (body : FrameBody) (kind : Nat) (os : List Octet) : Prop :=
  kind = body.kindCode ∧ os = body.octets ∧ body.lawful = true

section
variable {body : FrameBody}

theorem readAs_of_map {n : Nat} {o : Octet} {os : List Octet} {kind : Nat} {make : Fin n → FrameBody}
    (read : (finOfOctet n o).map make = some body) (each : ∀ i, o = octetOfFin i → (make i).readAs kind os) :
    body.readAs kind os := by
  obtain ⟨i, rfl, code⟩ := of_map_finOfOctet read
  exact each i code

theorem readAs_join {flags : Octet} (read : readBody 3 [flags] = some body) : body.readAs 3 [flags] := by
  change (if flags = 0x00 then some (FrameBody.join false) else if flags = 0x01 then some (.join true) else none) = _
    at read
  split at read
  · next code => obtain rfl := Option.some.inj read; exact ⟨rfl, by rw [code]; rfl, rfl⟩
  · split at read
    · next code => obtain rfl := Option.some.inj read; exact ⟨rfl, by rw [code]; rfl, rfl⟩
    · cases read

theorem readAs_claim {x : Octet} (read : readBody 6 [x] = some body) : body.readAs 6 [x] := by
  have whole (l : LockNo) (v : Flavour) (lock : l.val = x.toNat % 64) (code : x.toNat / 64 = v.code) :
      (FrameBody.claim l v).readAs 6 [x] := by
    have sum : v.code * 64 + l.val = x.toNat := by omega
    exact ⟨rfl, by rw [FrameBody.octets, sum, octetOf_of_toNat], rfl⟩
  change (if h : x.toNat % 64 < 32 then
    if x.toNat / 64 = 0 then some (FrameBody.claim ⟨x.toNat % 64, h⟩ .wait)
    else if x.toNat / 64 = 1 then some (.claim ⟨x.toNat % 64, h⟩ .tryOnce) else none else none) = _ at read
  split at read
  · split at read
    · next code => obtain rfl := Option.some.inj read; exact whole _ .wait rfl code
    · split at read
      · next code => obtain rfl := Option.some.inj read; exact whole _ .tryOnce rfl code
      · cases read
  · cases read

theorem readAs_arrive {b c : Octet} (read : readBody 8 [b, c] = some body) : body.readAs 8 [b, c] := by
  change (if 2 ≤ c.toNat ∧ c.toNat ≤ 16 then (finOfOctet 8 b).map (fun b => FrameBody.arrive b c.toNat) else none) = _
    at read
  split at read
  · next count =>
    refine readAs_of_map read fun i code => ⟨rfl, ?_, by simpa [FrameBody.lawful] using count⟩
    rw [FrameBody.octets, octetOf_of_toNat, code]
  · cases read

theorem readAs_snapshot {p n : Octet} {content : List Octet} (read : readBody 11 (p :: n :: content) = some body) :
    body.readAs 11 (p :: n :: content) := by
  change (if n.toNat = content.length then (readContent p.toNat content).map FrameBody.snapshot else none) = _ at read
  split at read
  · next count =>
    obtain ⟨c, reads, rfl⟩ := Option.map_eq_some_iff.mp read
    obtain ⟨part, rfl, law⟩ := of_readContent reads
    refine ⟨rfl, ?_, law⟩
    rw [FrameBody.octets, ← count, octetOf_of_toNat, octetOfFin, ← part, octetOf_of_toNat]
  · cases read

theorem readAs_publish {high low : Octet} (read : readBody 9 [high, low] = some body) : body.readAs 9 [high, low] := by
  obtain rfl := Option.some.inj read
  exact ⟨rfl, by rw [FrameBody.octets, highOctet_word16, lowOctet_word16], rfl⟩

/-- A body read is written by the octets it was read from. -/
theorem of_readBody : ∀ {kind : Nat} {os : List Octet}, readBody kind os = some body → body.readAs kind os
  | 0, [_], read => readAs_of_map read fun _ code => ⟨rfl, congrArg (fun o => [o]) code, rfl⟩
  | 1, [], read => by obtain rfl := Option.some.inj read; exact ⟨rfl, rfl, rfl⟩
  | 2, [], read => by obtain rfl := Option.some.inj read; exact ⟨rfl, rfl, rfl⟩
  | 3, [_], read => readAs_join read
  | 4, [_], read => readAs_of_map read fun _ code => ⟨rfl, congrArg (fun o => [o]) code, rfl⟩
  | 5, [_], read => readAs_of_map read fun _ code => ⟨rfl, congrArg (fun o => [o]) code, rfl⟩
  | 6, [_], read => readAs_claim read
  | 7, [_, g], read => readAs_of_map read fun _ code => ⟨rfl, congrArg (fun o => [o, g]) code, rfl⟩
  | 8, [_, _], read => readAs_arrive read
  | 9, [_, _], read => readAs_publish read
  | 10, [_, k], read => readAs_of_map read fun _ code => ⟨rfl, congrArg (fun o => [o, k]) code, rfl⟩
  | 11, _ :: _ :: _, read => readAs_snapshot read
  | 12, [], read => by obtain rfl := Option.some.inj read; exact ⟨rfl, rfl, rfl⟩
  | 0, [], read | 0, _ :: _ :: _, read | 1, _ :: _, read | 2, _ :: _, read | 3, [], read | 3, _ :: _ :: _, read
  | 4, [], read | 4, _ :: _ :: _, read | 5, [], read | 5, _ :: _ :: _, read | 6, [], read | 6, _ :: _ :: _, read
  | 7, [], read | 7, [_], read | 7, _ :: _ :: _ :: _, read | 8, [], read | 8, [_], read | 8, _ :: _ :: _ :: _, read
  | 9, [], read | 9, [_], read | 9, _ :: _ :: _ :: _, read | 10, [], read | 10, [_], read | 10, _ :: _ :: _ :: _, read
  | 11, [], read | 11, [_], read | 12, _ :: _, read | _ + 13, _, read => by cases read

end

theorem FrameBody.kindCode_lt (body : FrameBody) : body.kindCode < 13 := by
  cases body <;> simp [FrameBody.kindCode]

theorem headOctet_toNat (body : FrameBody) (t : Station) :
    (headOctet body.kindCode t).toNat = body.kindCode * 16 + t.val := by
  have small := body.kindCode_lt
  exact octetOf_toNat (by omega)

theorem headKind_head (f : Frame) : headKind f.head = f.body.kindCode := by
  rw [headKind, Frame.head, headOctet_toNat]
  omega

theorem headSender_head (f : Frame) : headSender f.head = f.sender := by
  refine Fin.ext ?_
  have value := headOctet_toNat f.body f.sender
  have small := f.sender.isLt
  simp only [headSender, Frame.head, value]
  omega

theorem readFrame_checked (f : Frame) (law : f.lawful = true) : readFrame f.checked = some f := by
  rw [Frame.checked, readFrame, headKind_head, headSender_head, word16_octets, readBody_octets f.body law]
  rfl

theorem of_readFrame {os : List Octet} {f : Frame} (read : readFrame os = some f) : os = f.checked ∧ f.lawful = true := by
  unfold readFrame at read
  split at read
  · next head high low body =>
    obtain ⟨b, reads, rfl⟩ := Option.map_eq_some_iff.mp read
    obtain ⟨kind, rfl, law⟩ := of_readBody reads
    refine ⟨?_, law⟩
    have whole : b.kindCode * 16 + (headSender head).val = head.toNat := by
      rw [← kind]; simp only [headKind, headSender]; omega
    rw [Frame.checked, Frame.head, headOctet, whole, octetOf_of_toNat, highOctet_word16, lowOctet_word16]
  · cases read

/-! ### Where a frame ends -/

theorem data_cleanCharacters (os : List Octet) : (cleanCharacters os).map (·.data) = os := by
  simp [cleanCharacters, Function.comp_def]

theorem no_stopDominant_cleanCharacters (os : List Octet) : (cleanCharacters os).any (·.stopDominant) = false := by
  simp [cleanCharacters]

theorem length_octets (f : Frame) : f.octets.length = 5 + f.body.octets.length := by
  simp [Frame.octets, Frame.checked]
  omega

theorem length_octets_le (f : Frame) (law : f.lawful = true) : f.octets.length ≤ 75 := by
  rw [length_octets]
  cases body : f.body with
  | snapshot content =>
    have small := length_content_le content (by simpa [Frame.lawful, body, FrameBody.lawful] using law)
    simp only [FrameBody.octets, List.length_cons]
    omega
  | _ => simp [FrameBody.octets]

/-- The length its head and its fifth octet give a frame is the number of its octets (R68). -/
theorem frameLength_octets (f : Frame) (law : f.lawful = true) : frameLength f.octets = some f.octets.length := by
  rw [length_octets]
  cases body : f.body with
  | snapshot content =>
    have small := length_content_le content (by simpa [Frame.lawful, body, FrameBody.lawful] using law)
    have count : (octetOf content.octets.length).toNat = content.octets.length := octetOf_toNat (by omega)
    simp only [Frame.octets, Frame.checked, body, FrameBody.octets, List.cons_append, frameLength, headKind_head,
      FrameBody.kindCode, count, List.length_cons, if_true]
    congr 1
    omega
  | _ =>
    simp [Frame.octets, Frame.checked, body, FrameBody.octets, frameLength, headKind_head, FrameBody.kindCode, kindLength]

theorem frameLength_other {head : Octet} (other : headKind head ≠ 11) (rest : List Octet) :
    frameLength (head :: rest) = some (kindLength (headKind head)) := by
  unfold frameLength
  exact if_neg other

theorem frameLength_snapshot {head : Octet} (snapshot : headKind head = 11) :
    ∀ {rest : List Octet} {n : Nat}, frameLength (head :: rest) = some n →
      ∃ a b c d tail, rest = a :: b :: c :: d :: tail ∧ n = 7 + min d.toNat 68
  | a :: b :: c :: d :: tail, n, settled => by
    have length : some (7 + min d.toNat 68) = some n := (if_pos snapshot).symm.trans settled
    exact ⟨a, b, c, d, tail, rfl, (Option.some.inj length).symm⟩
  | [], _, settled | [_], _, settled | [_, _], _, settled | [_, _, _], _, settled => by
    have length : none = some _ := (if_pos snapshot).symm.trans settled
    cases length

/-- The length that the first octets settle, if they settle one, stands as further octets arrive. -/
theorem frameLength_append {os more : List Octet} {n : Nat} (settled : frameLength os = some n) :
    frameLength (os ++ more) = some n := by
  match os, settled with
  | head :: rest, settled =>
    by_cases snapshot : headKind head = 11
    · obtain ⟨a, b, c, d, tail, rfl, rfl⟩ := frameLength_snapshot snapshot settled
      exact if_pos snapshot
    · rw [List.cons_append, frameLength_other snapshot, ← settled, frameLength_other snapshot]

theorem completeFrame_clean {os : List Octet} (length : frameLength os = some os.length) :
    completeFrame (cleanCharacters os) = some (cleanCharacters os) := by
  have same : (cleanCharacters os).length = os.length := List.length_map _
  simp [completeFrame, data_cleanCharacters, length, ← same]

theorem completeFrame_clean_take {os : List Octet} (length : frameLength os = some os.length) {n : Nat}
    (short : n < os.length) : completeFrame (cleanCharacters (os.take n)) = none := by
  have same : (cleanCharacters (os.take n)).length = n := by simp [cleanCharacters]; omega
  rw [completeFrame, data_cleanCharacters]
  split
  · next m settled =>
    have whole := frameLength_append (more := os.drop n) settled
    rw [List.take_append_drop, length] at whole
    obtain rfl := Option.some.inj whole
    rw [if_neg (by omega)]
  · rfl

/-! ### The classification -/

theorem classify_clean (f : Frame) (law : f.lawful = true) : classify (cleanCharacters f.octets) = .good f := by
  have split : f.octets.length - 2 = f.checked.length := by simp [Frame.octets]
  have front : f.octets.take f.checked.length = f.checked := List.take_left' rfl
  have back : f.octets.drop f.checked.length = [highOctet (checkOf f.checked), lowOctet (checkOf f.checked)] :=
    List.drop_left' rfl
  simp [classify, data_cleanCharacters, no_stopDominant_cleanCharacters, split, front, back, readFrame_checked f law]

/-- What is classed good ends in its check, holds no dominant stop bit, and is read from the octets before the check. -/
theorem of_classify {chars : List Character} {f : Frame} (good : classify chars = .good f) :
    chars.map (·.data) = f.octets ∧ (∀ ch ∈ chars, ch.stopDominant = false) ∧ f.lawful = true := by
  simp only [classify] at good
  split at good
  · cases good
  next check =>
  split at good
  · cases good
  next stops =>
  split at good
  · next g read =>
    obtain rfl := Classification.good.inj good
    obtain ⟨checked, law⟩ := of_readFrame read
    refine ⟨?_, by simpa using stops, law⟩
    rw [Frame.octets, ← checked, ← not_not.mp check, List.take_append_drop]
  · cases good

theorem eq_cleanCharacters : ∀ {chars : List Character}, (∀ ch ∈ chars, ch.stopDominant = false) →
    chars = cleanCharacters (chars.map (·.data))
  | [], _ => rfl
  | ⟨_, _⟩ :: _, clean => by
    have ⟨stop, rest⟩ := List.forall_mem_cons.mp clean
    rw [List.map_cons, cleanCharacters, List.map_cons, ← cleanCharacters, ← eq_cleanCharacters rest]
    exact congrArg (fun d => Character.mk _ d :: _) stop

/-- Settles O54: the octets of a frame give its length at every point where they settle one, and each field's reader undoes
its writer. -/
theorem frameRoundTrip : Obligations.FrameRoundTrip := by
  refine ⟨fun f law => ⟨completeFrame_clean (frameLength_octets f law),
    fun n short => completeFrame_clean_take (frameLength_octets f law) short, classify_clean f law⟩,
    fun f law => ⟨by rw [length_octets]; omega, length_octets_le f law, ?_⟩⟩
  rw [length_octets]
  cases f.body with
  | snapshot content =>
    simp only [FrameBody.octets, List.length_cons]
    cases content with
    | roster es => rw [length_roster]
    | locks g ls => rw [length_locks]; dsimp only; omega
    | barriers g bs => rw [length_barriers]
    | words g ws => rw [length_words]
  | _ => rfl

/-- Settles O55: each reader accepts only what its writer gives. -/
theorem goodFramesAreEncoded : Obligations.GoodFramesAreEncoded := by
  intro chars f _ good
  obtain ⟨octets, clean, law⟩ := of_classify good
  exact ⟨octets ▸ eq_cleanCharacters clean, law⟩

end Sys2Proof.Machine
end

section
/-!
SUPPORT. What a command can do to the state, said once for every property that the primitive updates keep: where a property is
kept by each of them (`State.Robust`), it is kept by every compound operation, and so by every command that enters no other
station state and counts no frame. A property of one's own is then proved of the primitive updates alone.
-/

namespace Sys2Proof.Machine

/-! ## The primitive updates -/

/-- A request queue shortened: requests are taken out, and the marks of those left change without any coming into attempt
(R159). -/
def Shortens (old new : List Request) : Prop :=
  ∃ mark : Request → Request,
    (∀ r, (mark r).tag = r.tag ∧ (mark r).body = r.body ∧ ((mark r).inAttempt = true → r.inAttempt = true)) ∧
      new.Sublist (old.map mark)

theorem shortens_of_sublist {old new : List Request} (h : new.Sublist old) : Shortens old new :=
  ⟨id, fun _ => ⟨rfl, rfl, id⟩, by rwa [List.map_id]⟩

/-- What the checks of a commit establish of the request they let pass (R12, R161, R162). -/
structure State.MayQueue (body : RequestBody) (tag : Octet) (s : State) : Prop where
  named : tag ≠ 0
  fresh : s.tagQueued tag = false
  room : s.station.joinsOnly = false → s.hp.queue.length < 8
  joins : s.station.joinsOnly = true → body = .join ∧ s.hp.queue.any (fun r => r.body == .join) = false
  lawful : body.lawful = true

/-- A property that every primitive update keeps, but for those of the replica and of the order number. -/
structure State.Robust (P : State → Prop) : Prop where
  shell : ∀ {s t : State}, t.au = s.au → t.tu = s.tu → t.mc = s.mc → t.ss = s.ss → t.hp = s.hp → P s → P t
  unit : ∀ {s : State} (f : AcceptanceUnit → AcceptanceUnit), (f s.au).order = s.au.order →
    ((f s.au).heard = none ∨ (f s.au).heard = s.au.heard) → P s → P (s.onAu f)
  life : ∀ {s : State} (f : MembershipController → MembershipController),
    ((f s.mc).state.joinsOnly = true → s.station.joinsOnly = true ∨ s.hp.queue = []) → P s → P (s.onMc f)
  attempt : ∀ {s : State} (f : SendSelector → SendSelector),
    (∀ a, (f s.ss).attempt = some a → ∃ b, s.ss.attempt = some b ∧ b.frame = a.frame) → P s → P (s.onSs f)
  records : ∀ {s : State} (f : HostPort → HostPort), (f s.hp).queue = s.hp.queue →
    (f s.hp).indications = s.hp.indications → (f s.hp).readPos = s.hp.readPos → P s → P (s.onHp f)
  queue : ∀ {s : State} (f : List Request → List Request), Shortens s.hp.queue (f s.hp.queue) → P s →
    P (s.onHp (fun h => { h with queue := f h.queue }))
  indicate : ∀ {s : State} (r : Indication), P s → P (s.indicate r)
  enqueue : ∀ {s : State} {body : RequestBody} {tag : Octet}, s.MayQueue body tag → P s → P (s.enqueue body tag)
  start : ∀ {s : State} {item : Item} {body : FrameBody}, s.buildBody item = some body → P s →
    P (s.startAttempt item body)
  ownHeard : ∀ {s : State} {a : Attempt}, s.ss.attempt = some a → P s → P (s.endOwnFrame a)
  peerHeard : ∀ {s : State} (chars : List Character), P s → P (s.endHeardFrame chars)

namespace State.Robust

variable {P : State → Prop} (k : State.Robust P) {s : State}
include k

/-! ## The request queue and the local records -/

theorem onLe (f : LineEngine → LineEngine) (h : P s) : P (s.onLe f) := k.shell (s := s) rfl rfl rfl rfl rfl h

theorem setClaim (l : LockNo) (r : ClaimRecord) (h : P s) : P (s.setClaim l r) := k.records _ rfl rfl rfl h
theorem setArrival (b : BarrierNo) (a : ArrivalRecord) (h : P s) : P (s.setArrival b a) := k.records _ rfl rfl rfl h
theorem setWatch (i : SlotNo) (w : WatchSlot) (h : P s) : P (s.setWatch i w) := k.records _ rfl rfl rfl h
theorem answer (r : CommitResult) (x y z w : Octet) (h : P s) : P (s.answer r x y z w) := k.records _ rfl rfl rfl h
theorem refuse (r : CommitResult) (h : P s) : P (s.refuse r) := k.answer r 0 0 0 0 h
theorem uncount (h : P s) : P s.uncount := k.attempt _ (fun a held => ⟨a, held, rfl⟩) h

theorem indicateIf (c : Bool) (r : Indication) (h : P s) : P (s.indicateIf c r) := by
  unfold State.indicateIf
  split
  · exact k.indicate r h
  · exact h

theorem removeRequest (tag : Octet) (h : P s) : P (s.removeRequest tag) := by
  have removed : P (s.onHp (fun h => { h with queue := h.queue.eraseP (fun r => r.tag == tag) })) :=
    k.queue _ (shortens_of_sublist List.eraseP_sublist) h
  unfold State.removeRequest
  split
  · exact k.uncount removed
  · exact removed

theorem removeFound (r : Option Request) (h : P s) : P (s.removeFound r) := by
  cases r with
  | none => exact h
  | some r => exact k.removeRequest r.tag h

theorem clearMarks (h : P s) : P s.clearMarks :=
  k.queue (fun q => q.map (fun r : Request => { r with inAttempt := false }))
    ⟨fun r : Request => { r with inAttempt := false }, fun _ => ⟨rfl, rfl, fun marked => Bool.noConfusion marked⟩,
      List.Sublist.refl _⟩ h

theorem setCancelMark (tag : Octet) (h : P s) : P (s.setCancelMark tag) := by
  refine k.queue (fun q => q.map (fun r : Request => if r.tag = tag then { r with cancelMark := true } else r))
    ⟨fun r : Request => if r.tag = tag then { r with cancelMark := true } else r, fun r => ?_, List.Sublist.refl _⟩ h
  dsimp only
  split
  · exact ⟨rfl, rfl, id⟩
  · exact ⟨rfl, rfl, id⟩

theorem returnRecord (body : RequestBody) (h : P s) : P (s.returnRecord body) := by
  cases body with
  | claim l => exact k.setClaim l _ h
  | tryClaim l => exact k.setClaim l _ h
  | release l => unfold State.returnRecord; dsimp only; split; exacts [k.setClaim l _ h, h]
  | withdraw l => unfold State.returnRecord; dsimp only; split; exacts [k.setClaim l _ h, k.setClaim l _ h]
  | arrive b n => unfold State.returnRecord; dsimp only; split; exacts [k.setArrival b _ h, h]
  | abandon b => unfold State.returnRecord; dsimp only; split; exacts [k.setArrival b _ h, h]
  | join | leave | publish | post => exact h

theorem cancelRequest (r : Request) (h : P s) : P (s.cancelRequest r) :=
  k.returnRecord r.body (k.indicate _ (k.removeRequest r.tag h))

theorem faultRequest (r : Request) (h : P s) : P (s.faultRequest r) :=
  k.returnRecord r.body (k.indicate _ (k.removeRequest r.tag h))

/-! ## The commits -/

theorem acceptQueued {body : RequestBody} {tag : Octet} (may : s.MayQueue body tag) (h : P s) :
    P (s.acceptQueued body tag) :=
  k.answer _ _ _ _ _ (k.enqueue may h)

omit k in
theorem tagRefusal_none {tag : Octet} (passed : s.tagRefusal tag = none) : tag ≠ 0 ∧ s.tagQueued tag = false := by
  unfold State.tagRefusal at passed
  split at passed
  · cases passed
  · next named =>
    split at passed
    · cases passed
    · next fresh => exact ⟨named, by simpa using fresh⟩

omit k in
theorem queuedRefusal_none {tag : Octet} (passed : s.queuedRefusal tag = none) :
    s.station.joinsOnly = false ∧ tag ≠ 0 ∧ s.tagQueued tag = false := by
  unfold State.queuedRefusal at passed
  cases station : s.station with
  | watch | outside | halted => rw [station] at passed; cases passed
  | joining | inStep | diverged =>
    rw [station] at passed
    dsimp only at passed
    split at passed
    · cases passed
    · exact ⟨rfl, tagRefusal_none passed⟩

/-- A request whose kind is taken inside the cluster passes its checks and joins a queue that is not full; `record` is the
change of the local record that goes with it. -/
theorem queueUnlessFull {body : RequestBody} {tag : Octet} {record : State → State} (passed : s.queuedRefusal tag = none)
    (law : body.lawful = true) (kept : P (record s)) (queue : (record s).hp.queue = s.hp.queue)
    (station : (record s).station = s.station) (h : P s) : P (s.queueUnlessFull body tag record) := by
  obtain ⟨inside, named, fresh⟩ := queuedRefusal_none passed
  unfold State.queueUnlessFull
  split
  · exact k.refuse _ h
  · next room =>
    refine k.acceptQueued ⟨named, ?_, fun _ => ?_, fun outside => ?_, law⟩ kept
    · rw [State.tagQueued, queue]; exact fresh
    · rw [queue]; simpa [State.queueFull_iff] using room
    · rw [station, inside] at outside; cases outside

theorem commitUnknown (h : P s) : P s.commitUnknown := by
  unfold State.commitUnknown
  split
  · exact k.refuse _ h
  · exact k.refuse _ h

theorem commitJoin (tag : Octet) (h : P s) : P (s.commitJoin tag) := by
  have outside (joinsOnly : s.station.joinsOnly = true) : P (match s.tagRefusal tag with
      | some r => s.refuse r
      | none => if s.hp.queue.any (fun r => r.body == .join) then s.refuse .already else s.acceptQueued .join tag) := by
    split
    · exact k.refuse _ h
    · next passed =>
      obtain ⟨named, fresh⟩ := tagRefusal_none passed
      split
      · exact k.refuse _ h
      · next fewer =>
        exact k.acceptQueued
          { named, fresh, room := fun inside => absurd (joinsOnly.symm.trans inside) (by decide)
            joins := fun _ => ⟨rfl, by simpa using fewer⟩, lawful := rfl } h
  unfold State.commitJoin
  cases station : s.station with
  | watch => exact outside (by rw [station]; rfl)
  | outside => exact outside (by rw [station]; rfl)
  | halted | joining | inStep | diverged => exact k.refuse _ h

theorem cancelAll (h : P s) : P s.cancelAll := by
  unfold State.cancelAll
  exact List.foldlRecOn s.hp.queue _ h fun _ kept r _ => k.cancelRequest r kept

theorem commitLeave (tag : Octet) (h : P s) : P (s.commitLeave tag) := by
  unfold State.commitLeave
  split
  · exact k.refuse _ h
  · next passed =>
    obtain ⟨inside, named, fresh⟩ := queuedRefusal_none passed
    split
    · exact k.queueUnlessFull passed rfl h rfl rfl h
    · have queue : s.cancelAll.hp.queue = [] := by rw [State.cancelAll, State.foldl_cancelRequest _ s rfl]; rfl
      have station : s.cancelAll.station = s.station := by
        refine congrArg (·.state) (State.SameBesidePort.mc (?_ : s.SameBesidePort s.cancelAll))
        exact List.foldlRecOn s.hp.queue _ (.refl s) fun t same r _ => same.trans (t.sameBesidePort_cancelRequest r)
      exact k.acceptQueued
        { named, fresh := by rw [State.tagQueued, queue]; rfl, room := fun _ => by rw [queue]; decide
          joins := fun outside => absurd (inside.symm.trans (station ▸ outside)) (by decide), lawful := rfl } (k.cancelAll h)

theorem commitClaimOf {body : LockNo → RequestBody} (law : ∀ l, (body l).lawful = true) (tag : Octet) (h : P s) :
    P (s.commitClaimOf body tag) := by
  unfold State.commitClaimOf
  split
  · exact k.refuse _ h
  next passed =>
  split
  · exact k.refuse _ h
  next l _ =>
  dsimp only
  split
  · exact k.refuse _ h
  · exact k.queueUnlessFull passed (law l) (k.setClaim l _ h) rfl rfl h

theorem commitRelease (tag : Octet) (h : P s) : P (s.commitRelease tag) := by
  unfold State.commitRelease
  split
  · exact k.refuse _ h
  next passed =>
  split
  · exact k.refuse _ h
  next l _ =>
  dsimp only
  split
  · exact k.refuse _ h
  · exact k.queueUnlessFull passed rfl (k.setClaim l _ h) rfl rfl h

theorem withdrawLocally (l : LockNo) (h : P s) : P (s.withdrawLocally l) :=
  k.answer _ _ _ _ _ (k.indicate _ (k.setClaim l _ (k.removeFound _ h)))

theorem commitWithdraw (tag : Octet) (h : P s) : P (s.commitWithdraw tag) := by
  unfold State.commitWithdraw
  split
  · exact k.refuse _ h
  next passed =>
  split
  · exact k.refuse _ h
  next l _ =>
  have queued (c : ClaimRecord) : P (s.queueUnlessFull (.withdraw l) tag (State.setClaim l c)) :=
    k.queueUnlessFull passed rfl (k.setClaim l _ h) rfl rfl h
  dsimp only
  split
  · exact k.refuse _ h
  · exact k.refuse _ h
  · exact k.refuse _ h
  · split
    · exact queued _
    · exact k.withdrawLocally l h
  · exact queued _
  · exact queued _

omit k in
theorem partyArgument_lawful {b : BarrierNo} {count : Nat} (argument : s.partyArgument = some count) :
    (RequestBody.arrive b count).lawful = true := by
  unfold State.partyArgument at argument
  split at argument
  · next range => obtain rfl := Option.some.inj argument; simpa [RequestBody.lawful] using range
  · cases argument

theorem commitArrive (tag : Octet) (h : P s) : P (s.commitArrive tag) := by
  unfold State.commitArrive
  split
  · exact k.refuse _ h
  next passed =>
  split
  · next b count _ party =>
    split
    · exact k.refuse _ h
    · exact k.queueUnlessFull passed (partyArgument_lawful party) (k.setArrival b _ h) rfl rfl h
  · exact k.refuse _ h

theorem abandonLocally (b : BarrierNo) (h : P s) : P (s.abandonLocally b) :=
  k.answer _ _ _ _ _ (k.indicate _ (k.setArrival b _ (k.removeFound _ h)))

theorem commitAbandon (tag : Octet) (h : P s) : P (s.commitAbandon tag) := by
  unfold State.commitAbandon
  split
  · exact k.refuse _ h
  next passed =>
  split
  · exact k.refuse _ h
  next b _ =>
  have queued (a : ArrivalRecord) : P (s.queueUnlessFull (.abandon b) tag (State.setArrival b a)) :=
    k.queueUnlessFull passed rfl (k.setArrival b _ h) rfl rfl h
  dsimp only
  split
  · exact k.refuse _ h
  · exact k.refuse _ h
  · split
    · exact queued _
    · exact k.abandonLocally b h
  · exact queued _

theorem commitPublish (tag : Octet) (h : P s) : P (s.commitPublish tag) := by
  unfold State.commitPublish
  split
  · exact k.refuse _ h
  next passed => exact k.queueUnlessFull passed rfl h rfl rfl h

theorem commitPost (tag : Octet) (h : P s) : P (s.commitPost tag) := by
  unfold State.commitPost
  split
  · exact k.refuse _ h
  next passed =>
  split
  · exact k.refuse _ h
  · exact k.queueUnlessFull passed rfl h rfl rfl h

theorem commitCancel (h : P s) : P s.commitCancel := by
  unfold State.commitCancel
  dsimp only
  split
  · exact k.refuse _ h
  split
  · exact k.refuse _ h
  split
  · exact k.refuse _ h
  split
  · exact k.refuse _ h
  next r _ =>
  split
  · split
    · exact k.refuse _ h
    · exact k.answer _ _ _ _ _ (k.setCancelMark _ h)
  · exact k.answer _ _ _ _ _ (k.cancelRequest r h)

theorem matchWatch (i : SlotNo) (h : P s) : P (s.matchWatch i) := k.setWatch i _ (k.indicate _ h)

theorem commitArmWatch (tag : Octet) (h : P s) : P (s.commitArmWatch tag) := by
  unfold State.commitArmWatch
  split
  · exact k.refuse _ h
  split
  · exact k.refuse _ h
  split
  · exact k.refuse _ h
  dsimp only
  split
  · exact k.refuse _ h
  split
  · exact k.refuse _ h
  have armed (w : WatchSlot) (i : SlotNo) (v : Word16) (x y z u : Octet) :
      P (if w.holds v then ((s.setWatch i w).answer .accepted x y z u).matchWatch i
        else (s.setWatch i w).answer .accepted x y z u) := by
    have answered := k.answer .accepted x y z u (k.setWatch i w h)
    split
    · exact k.matchWatch i answered
    · exact answered
  exact armed _ _ _ _ _ _ _

theorem commitDisarmWatch (h : P s) : P s.commitDisarmWatch := by
  unfold State.commitDisarmWatch
  split
  · exact k.refuse _ h
  split
  · exact k.refuse _ h
  dsimp only
  split
  · exact k.answer _ _ _ _ _ (k.setWatch _ _ h)
  · exact k.answer _ _ _ _ _ h

theorem committed (checks : List (Bool × CommitResult)) {passed : State} (kept : P passed) (h : P s) :
    P (s.committed checks passed) := by
  unfold State.committed
  split
  · exact k.refuse _ h
  · exact kept

theorem commitInStep {α : Type} {argument : Option α} {passed : α → State} (kept : ∀ a, P (passed a)) (h : P s) :
    P (s.commitInStep argument passed) := by
  cases argument with
  | none => rw [State.commitInStep_none]; exact k.committed _ h h
  | some a => rw [State.commitInStep_some]; exact k.committed _ (kept a) h

/-- Every write to COMMIT, whatever REQUEST A holds (R158). -/
theorem commitWrite (tag : Octet) (h : P s) : P (s.commitWrite tag) := by
  unfold State.commitWrite
  split
  · exact k.commitUnknown h
  · exact k.commitJoin tag h
  · exact k.commitLeave tag h
  · exact k.commitClaimOf (fun _ => rfl) tag h
  · exact k.commitClaimOf (fun _ => rfl) tag h
  · exact k.commitRelease tag h
  · exact k.commitWithdraw tag h
  · exact k.commitArrive tag h
  · exact k.commitAbandon tag h
  · exact k.commitPublish tag h
  · exact k.commitPost tag h
  · exact k.commitCancel h
  · exact k.commitArmWatch tag h
  · exact k.commitDisarmWatch h
  · rw [State.commitQueryLock_eq]; exact k.commitInStep (fun _ => k.answer _ _ _ _ _ h) h
  · rw [State.commitQueryBarrier_eq]; exact k.commitInStep (fun _ => k.answer _ _ _ _ _ h) h
  · rw [State.commitQueryRoster_eq]; exact k.commitInStep (fun _ => k.answer _ _ _ _ _ h) h
  · rw [State.commitQueryWord_eq]; exact k.commitInStep (fun _ => k.answer _ _ _ _ _ h) h

omit k in
/-- A commit command is the write to COMMIT, in the row of its kind and out of it (R158, log 6). -/
theorem commitAs_eq {kind : Option RequestKind} {effect : State → State} {tag : Octet}
    (row : ∀ t : State, RequestKind.ofCode t.hp.requestA = kind → effect t = t.commitWrite tag) :
    s.commitAs kind effect tag = s.unlessReset (·.commitWrite tag) := by
  unfold State.commitAs State.unlessReset
  split
  · rfl
  · dsimp only
    split
    · next code => exact row s code
    · rfl

/-! ## The attempt and the line -/

theorem dropAttempt (h : P s) : P s.dropAttempt :=
  k.clearMarks (k.attempt _ (fun _ none => nomatch none) h)

theorem cancelMarked (h : P s) : P s.cancelMarked := by
  unfold State.cancelMarked
  split
  · split
    · exact k.cancelRequest _ h
    · exact h
  · exact h

theorem endItem (h : P s) : P s.endItem := by
  unfold State.endItem
  split
  · exact k.uncount (k.faultRequest _ h)
  · exact k.uncount h

theorem failAttempt (h : P s) : P s.failAttempt := by
  have failed : P (s.setYield.onSs (fun x => { x with counter := x.counter + 1 })) :=
    k.attempt _ (fun a held => ⟨a, held, rfl⟩) (k.onLe _ h)
  unfold State.failAttempt
  dsimp only
  split
  · exact k.dropAttempt (k.onLe _ h)
  split
  · exact k.dropAttempt (k.cancelMarked failed)
  split
  · exact k.dropAttempt (k.endItem failed)
  · exact k.dropAttempt failed

theorem loseAttempt (h : P s) : P s.loseAttempt := by
  unfold State.loseAttempt
  split
  · exact k.dropAttempt h
  · exact k.dropAttempt (k.cancelMarked h)

theorem answerDeadAbandon (h : P s) : P s.answerDeadAbandon := by
  unfold State.answerDeadAbandon
  split
  · exact k.indicate _ (k.removeRequest _ h)
  · exact h

theorem offer (n : Nat) : ∀ {s : State}, P s → P (s.offer n) := by
  induction n with
  | zero => exact id
  | succ n ih =>
    intro s h
    unfold State.offer
    split
    · exact h
    split
    · next body built => exact k.start built h
    · exact ih (k.answerDeadAbandon h)

theorem reachContention (h : P s) : P s.reachContention := by
  unfold State.reachContention
  split
  · dsimp only
    split
    · exact k.offer _ (k.onLe _ h)
    · exact k.onLe _ h
  · exact h

theorem reachClearGap (h : P s) : P s.reachClearGap := by
  unfold State.reachClearGap
  split
  · exact k.onLe _ h
  · exact h

theorem endGap (h : P s) : P s.endGap := k.unit _ rfl (.inl rfl) (k.onLe _ h)

theorem endSlot (h : P s) : P s.endSlot := k.unit _ rfl (.inl rfl) (k.onLe _ h)

theorem discardDominant (h : P s) : P s.discardDominant := by
  unfold State.discardDominant
  split
  · exact k.endGap h
  · exact h

theorem openFrame (h : P s) : P s.openFrame := by
  unfold State.openFrame
  split
  · split
    · exact k.unit _ rfl (.inr rfl) (k.onLe _ (k.endGap h))
    · exact k.endGap h
  · exact h

theorem loseArbitration (winner : Octet) (h : P s) : P (s.loseArbitration winner) := by
  unfold State.loseArbitration
  split
  · split
    · exact k.onLe _ (k.loseAttempt h)
    · exact h
  · exact h

theorem winHead (h : P s) : P s.winHead := by
  unfold State.winHead
  split
  · exact k.onLe _ h
  · exact h

theorem collide (position : Nat) (h : P s) : P (s.collide position) := by
  unfold State.collide
  dsimp only
  split
  · split
    · exact k.unit _ rfl (.inl rfl) (k.onLe _ (k.failAttempt (k.winHead h)))
    · exact h
  · exact h

theorem stallFrame (h : P s) : P s.stallFrame := by
  unfold State.stallFrame
  split
  · exact k.endSlot h
  · exact h

theorem beginHeld (h : P s) : P s.beginHeld := by
  have truncated : P s.winHead.truncateHeld := by
    unfold State.truncateHeld
    dsimp only
    split
    · exact k.unit _ rfl (.inl rfl) (k.failAttempt (k.winHead h))
    · exact k.unit _ rfl (.inl rfl) (k.winHead h)
  unfold State.beginHeld
  split
  · exact h
  · exact k.indicate _ (k.onLe _ truncated)

theorem endHeld (h : P s) : P s.endHeld := by
  unfold State.endHeld
  split
  · exact k.onLe _ h
  · exact h

theorem finishFrame (chars : List Character) (h : P s) : P (s.finishFrame chars) := by
  unfold State.finishFrame
  split
  · split
    · next a held => exact k.ownHeard ((congrArg (·.attempt) s.winHead_ss).trans held) (k.winHead h)
    · exact h
  split
  · split
    · exact k.peerHeard _ h
    · exact k.unit _ rfl (.inr rfl) h
  · exact h

theorem endQuietWatch (h : P s) : P s.endQuietWatch := by
  unfold State.endQuietWatch
  split
  · next watch => exact k.life _ (fun _ => .inl (by rw [watch.1]; rfl)) h
  · exact h

/-- An update of the Membership Controller's timers. -/
theorem timers (f : MembershipController → MembershipController) (state : (f s.mc).state = s.station) (h : P s) :
    P (s.onMc f) :=
  k.life f (fun joins => .inl (state ▸ joins)) h

theorem expirePresence (h : P s) : P s.expirePresence := by
  unfold State.expirePresence
  split
  · exact k.timers _ rfl h
  · exact h

theorem expireSilence (peer : Station) (h : P s) : P (s.expireSilence peer) := by
  unfold State.expireSilence
  split
  · exact k.timers _ rfl h
  · exact h

theorem write (offset : WriteOffset) (o : Octet) (h : P s) : P (s.onHp (HostPort.write offset o)) := by
  cases offset with
  | requestA | requestB | requestC | requestD => exact k.records _ rfl rfl rfl h
  | offset6 => exact h

theorem resetnAsserted (h : P s) : P ((({ s with resetAsserted := true } : State).onLe
    (fun e => { e with line := .idle, rxBits := [] })).onAu (fun a => { a with partialFrame := [], heard := none })).dropAttempt :=
  k.dropAttempt (k.unit _ rfl (.inl rfl) (k.shell (s := s) rfl rfl rfl rfl rfl h))

end State.Robust

/-! ## The commands -/

/-- The commands that enter no other station state but at the end of the quiet watch, count no frame, and neither reset the
station nor move the read position. -/
def isCalm : Instr → Bool
  | .powerOnReset _ _ | .restart _ | .clearOverrun _ | .rewind _ | .indicationWindow | .driverFault
  | .transferTimerExpiry | .slotWindowEnd _ => false
  | _ => true

/-- A calm command keeps every robust property. -/
theorem State.Robust.exec {P : State → Prop} (k : State.Robust P) {i : Instr} (calm : isCalm i = true) {s t : State}
    (runs : exec i s = .next t) (h : P s) : P t := by
  have held {effect : State → State} (runs : (.next (s.unlessReset effect) : Out) = .next t) (kept : P (effect s)) : P t := by
    obtain rfl := Host.Outcome.next.inj runs
    unfold State.unlessReset
    split
    · exact h
    · exact kept
  have commit {kind : Option RequestKind} {effect : State → State} {tag : Octet}
      (runs : (.next (s.commitAs kind effect tag) : Out) = .next t)
      (row : ∀ t : State, RequestKind.ofCode t.hp.requestA = kind → effect t = t.commitWrite tag) : P t :=
    held (State.Robust.commitAs_eq row ▸ runs) (k.commitWrite tag h)
  cases i with
  | powerOnReset | restart | clearOverrun | rewind | indicationWindow | driverFault | transferTimerExpiry
  | slotWindowEnd => cases calm
  | irqEnable o => exact held runs (k.records _ rfl rfl rfl h)
  | registerWrite offset o => exact held runs (k.write offset o h)
  | commitUnknownKind tag | commitJoin tag | commitLeave tag | commitClaim tag | commitTryClaim tag | commitRelease tag
  | commitWithdraw tag | commitArrive tag | commitAbandon tag | commitPublish tag | commitPost tag | commitCancel tag
  | armWatch tag | disarmWatch tag | queryLock tag | queryBarrier tag | queryRoster tag | queryWord tag =>
    exact commit runs fun t code => by rw [State.commitWrite, code]
  | quietWatchExpiry => exact held runs (k.endQuietWatch h)
  | presenceTimerExpiry => exact held runs (k.expirePresence h)
  | silenceTimerExpiry peer => exact held runs (k.expireSilence peer h)
  | clearGap => exact held runs (k.reachClearGap h)
  | contentionPoint => exact held runs (k.reachContention h)
  | lostArbitration winner => exact held runs (k.loseArbitration winner h)
  | collision position => exact held runs (k.collide position h)
  | stall => exact held runs (k.stallFrame h)
  | lineHeldBegin => exact held runs (k.beginHeld h)
  | lineHeldEnd => exact held runs (k.endHeld h)
  | frameEnd chars => exact held runs (k.finishFrame chars h)
  | startBit => exact held runs (k.openFrame h)
  | dominantBeforeOpen => exact held runs (k.discardDominant h)
  | resetnAsserted => exact Host.Outcome.next.inj runs ▸ k.resetnAsserted h

end Sys2Proof.Machine
end

section
/-!
SUPPORT. The laws of the lock, barrier and roster records through each change a frame makes of them (R1, R23, R46).
-/

namespace Sys2Proof.Machine

/-! ## Locks (R1) -/

section
variable {r : LockRecord} {t : Station}

theorem LockRecord.lawful_iff : r.lawful = true ↔
    r.waiters.Nodup ∧ r.waiters.length ≤ 15 ∧ (r.holder = none → r.waiters = []) ∧ ∀ h, r.holder = some h → h ∉ r.waiters := by
  obtain ⟨holder, waiters⟩ := r
  cases holder <;> simp [LockRecord.lawful, and_assoc]

theorem freeLock_lawful : freeLock.lawful = true := by decide

/-- A free lock has no waiter, so its first claimant holds it alone. -/
theorem LockRecord.lawful_taken (law : r.lawful = true) (free : r.holder = none) :
    (⟨some t, r.waiters⟩ : LockRecord).lawful = true := by
  rw [(lawful_iff.mp law).2.2.1 free]
  rfl

/-- The holder and the waiters are different stations, so a station that is none of them finds at most 14 waiting. -/
theorem LockRecord.lawful_joined {h : Station} (law : r.lawful = true) (held : r.holder = some h) (other : h ≠ t)
    (fresh : t ∉ r.waiters) : (⟨some h, r.waiters ++ [t]⟩ : LockRecord).lawful = true := by
  obtain ⟨nodup, _, _, apart⟩ := lawful_iff.mp law
  have named : (h :: t :: r.waiters).Nodup := by simp [other, fresh, nodup, apart h held]
  have few := named.length_le_card
  rw [Fintype.card_fin, List.length_cons, List.length_cons] at few
  refine lawful_iff.mpr ⟨?_, ?_, nofun, ?_⟩
  · exact List.nodup_append.mpr ⟨nodup, List.nodup_singleton t,
      fun a mem b last same => fresh (List.mem_singleton.mp last ▸ same ▸ mem)⟩
  · simp only [List.length_append, List.length_singleton]; omega
  · simpa using ⟨apart h held, other⟩

theorem LockRecord.lawful_left (law : r.lawful = true) : (⟨r.holder, r.waiters.erase t⟩ : LockRecord).lawful = true := by
  obtain ⟨nodup, few, free, apart⟩ := lawful_iff.mp law
  refine lawful_iff.mpr ⟨nodup.erase t, (List.length_erase_le).trans few, fun none => ?_, fun h held mem => ?_⟩
  · rw [free none]; rfl
  · exact apart h held (List.mem_of_mem_erase mem)

theorem LockRecord.lawful_passed {rest : List Station} (law : r.lawful = true) (queue : r.waiters = t :: rest) :
    (⟨some t, rest⟩ : LockRecord).lawful = true := by
  obtain ⟨nodup, few, _, _⟩ := lawful_iff.mp law
  rw [queue] at nodup few
  obtain ⟨apart, nodup⟩ := List.nodup_cons.mp nodup
  rw [List.length_cons] at few
  exact lawful_iff.mpr ⟨nodup, by dsimp only; omega, nofun, fun h held => Option.some.inj held ▸ apart⟩

end

/-! ## Barriers (R23) -/

/-- A set with one station added counts at most one station more, and one station in all. -/
theorem stationCount_addStation (set : StationSet) (t : Station) :
    1 ≤ stationCount (addStation set t) ∧ stationCount (addStation set t) ≤ stationCount set + 1 := by
  have mem : t ∈ allStations.filter (hasStation (addStation set t)) :=
    List.mem_filter.mpr ⟨mem_allStations t, by rw [hasStation_addStation]; simp⟩
  have sub : allStations.filter (hasStation (addStation set t)) ⊆ t :: allStations.filter (hasStation set) := by
    intro k kept
    obtain ⟨_, has⟩ := List.mem_filter.mp kept
    rw [hasStation_addStation] at has
    by_cases same : k = t
    · exact same ▸ List.mem_cons_self
    · exact List.mem_cons_of_mem _ (List.mem_filter.mpr ⟨mem_allStations k, by simpa [same] using has⟩)
  exact ⟨List.length_pos_of_mem mem, (allStations_nodup.filter _).subperm sub |>.length_le⟩

theorem hasStation_dropStation (set : StationSet) (t k : Station) :
    hasStation (dropStation set t) k = (hasStation set k && decide (k ≠ t)) := by
  simp only [hasStation, dropStation, BitVec.getLsbD_and, BitVec.getLsbD_not, BitVec.getLsbD_twoPow, k.isLt, t.isLt,
    decide_true, Bool.true_and, ne_eq, Fin.ext_iff, decide_not]
  simp [eq_comm]

theorem stationCount_dropStation (set : StationSet) (t : Station) : stationCount (dropStation set t) ≤ stationCount set := by
  refine List.Sublist.length_le (List.monotone_filter_right _ fun k => ?_)
  rw [hasStation_dropStation]
  exact fun both => (Bool.and_eq_true _ _ ▸ both).1

theorem stationCount_pos {set : StationSet} (named : set ≠ 0) : 1 ≤ stationCount set := by
  by_contra none
  refine named (BitVec.eq_of_getLsbD_eq fun i hi => ?_)
  have empty : allStations.filter (hasStation set) = [] := List.length_eq_zero_iff.mp (by rw [stationCount] at none; omega)
  simpa [hasStation] using List.filter_eq_nil_iff.mp empty ⟨i, hi⟩ (mem_allStations _)

section
variable {r : BarrierRecord} {t : Station}

theorem BarrierRecord.lawful_iff : r.lawful = true ↔ (r.partyCount = 0 → r.arrived = 0) ∧ (r.partyCount ≠ 0 →
    2 ≤ r.partyCount ∧ r.partyCount ≤ 16 ∧ 1 ≤ stationCount r.arrived ∧ stationCount r.arrived < r.partyCount) := by
  by_cases idle : r.partyCount = 0 <;> simp [BarrierRecord.lawful, idle, and_assoc]

theorem BarrierRecord.nextUse_lawful : r.nextUse.lawful = true := rfl

theorem BarrierRecord.lawful_first {count : Nat} (low : 2 ≤ count) (high : count ≤ 16) :
    (⟨r.generation, count, addStation 0 t⟩ : BarrierRecord).lawful = true := by
  have empty : stationCount 0 = 0 := by decide
  obtain ⟨one, most⟩ := stationCount_addStation 0 t
  refine lawful_iff.mpr ⟨fun idle => ?_, fun _ => ⟨low, high, one, ?_⟩⟩
  · dsimp only at idle; omega
  · dsimp only; omega

theorem BarrierRecord.lawful_further (law : r.lawful = true) (opened : r.partyCount ≠ 0)
    (fewer : stationCount (addStation r.arrived t) ≠ r.partyCount) :
    (⟨r.generation, r.partyCount, addStation r.arrived t⟩ : BarrierRecord).lawful = true := by
  obtain ⟨low, high, _, below⟩ := (lawful_iff.mp law).2 opened
  obtain ⟨one, most⟩ := stationCount_addStation r.arrived t
  exact lawful_iff.mpr ⟨fun idle => absurd idle opened, fun _ => ⟨low, high, one, by dsimp only; omega⟩⟩

theorem BarrierRecord.lawful_without (law : r.lawful = true) :
    (⟨r.generation, if dropStation r.arrived t = 0 then 0 else r.partyCount, dropStation r.arrived t⟩ :
      BarrierRecord).lawful = true := by
  have fewer := stationCount_dropStation r.arrived t
  split
  · next empty => exact lawful_iff.mpr ⟨fun _ => empty, fun some => absurd rfl some⟩
  · next named =>
    refine lawful_iff.mpr ⟨fun idle => ?_, fun some => ?_⟩
    · dsimp only at idle ⊢
      rw [(lawful_iff.mp law).1 idle]
      exact BitVec.zero_and
    · obtain ⟨low, high, _, below⟩ := (lawful_iff.mp law).2 some
      exact ⟨low, high, stationCount_pos named, by dsimp only; omega⟩

end

/-! ## Roster entries (R46) -/

theorem RosterEntry.gain_lawful {e : RosterEntry} (p : PartNo) (law : e.lawful = true) : (e.gain p).lawful = true := by
  unfold RosterEntry.gain
  split
  · split
    · decide
    · rfl
  · exact law

/-! ## The replica -/

section
variable {u : TableUnit}

theorem TableUnit.lawful_resetValue : TableUnit.resetValue.lawful = true := by decide

theorem TableUnit.lawful_founding (me : Station) : (foundingReplica me).lawful = true := by
  refine (lawful_iff _).mpr ⟨fun l => ?_, fun b => ?_, fun t => ?_⟩
  · simp [foundingReplica, TableUnit.resetValue, freeLock_lawful]
  · simp [foundingReplica, TableUnit.resetValue, idleBarrier, BarrierRecord.lawful]
  · simp only [foundingReplica, Fin.getElem_fin, Vector.getElem_set]
    split
    · decide
    · simp [absentEntry, RosterEntry.lawful]

theorem TableUnit.lawful_setLock (l : LockNo) {r : LockRecord} (law : u.lawful = true) (record : r.lawful = true) :
    ({ u with locks := u.locks.set l r } : TableUnit).lawful = true := by
  obtain ⟨locks, rest⟩ := (lawful_iff u).mp law
  refine (lawful_iff _).mpr ⟨fun k => ?_, rest⟩
  simp only [Fin.getElem_fin, Vector.getElem_set]
  split
  · exact record
  · exact locks k

theorem TableUnit.lawful_setBarrier (b : BarrierNo) {r : BarrierRecord} (law : u.lawful = true) (record : r.lawful = true) :
    ({ u with barriers := u.barriers.set b r } : TableUnit).lawful = true := by
  obtain ⟨locks, barriers, roster⟩ := (lawful_iff u).mp law
  refine (lawful_iff _).mpr ⟨locks, fun k => ?_, roster⟩
  simp only [Fin.getElem_fin, Vector.getElem_set]
  split
  · exact record
  · exact barriers k

theorem TableUnit.lawful_setEntry (t : Station) {e : RosterEntry} (law : u.lawful = true) (entry : e.lawful = true) :
    ({ u with roster := u.roster.set t e } : TableUnit).lawful = true := by
  obtain ⟨locks, barriers, roster⟩ := (lawful_iff u).mp law
  refine (lawful_iff _).mpr ⟨locks, barriers, fun k => ?_⟩
  simp only [Fin.getElem_fin, Vector.getElem_set]
  split
  · exact entry
  · exact roster k

/-- A run of items replaced by items of one kind is of that kind. -/
theorem replaceFrom_all {α : Type} {n : Nat} (good : α → Bool) (xs : List α) :
    ∀ {v : Vector α n} {base : Nat}, (∀ i : Fin n, good v[i] = true) → xs.all good = true →
      ∀ i : Fin n, good (replaceFrom v base xs)[i] = true := by
  intro v base old new i
  rw [Fin.getElem_fin, replaceFrom_get _ _ _ _ i.isLt]
  split
  · cases item : xs[i.val - base]? with
    | none => exact old i
    | some x => exact List.all_eq_true.mp new x (List.mem_of_getElem? item)
  · exact old i

theorem TableUnit.lawful_replace {content : PartContent} (law : u.lawful = true) (good : content.lawful = true) :
    (u.replace content).lawful = true := by
  obtain ⟨locks, barriers, roster⟩ := (lawful_iff u).mp law
  cases content with
  | roster es => exact (lawful_iff _).mpr ⟨locks, barriers, (vector_all_iff _ _).mp good⟩
  | locks g ls => exact (lawful_iff _).mpr ⟨replaceFrom_all _ _ locks good, barriers, roster⟩
  | barriers g bs => exact (lawful_iff _).mpr ⟨locks, replaceFrom_all _ _ barriers good, roster⟩
  | words g ws => exact law

/-- The contents of a part of a lawful replica are lawful (R71, R143). -/
theorem TableUnit.content_lawful (p : PartNo) (law : u.lawful = true) : (u.content p).lawful = true := by
  obtain ⟨locks, barriers, roster⟩ := (lawful_iff u).mp law
  unfold TableUnit.content
  split
  · exact (vector_all_iff _ _).mpr roster
  split
  · simp only [PartContent.lawful, fourOf, Vector.toList_mk, List.all_cons, List.all_nil, Bool.and_true, Bool.and_eq_true]
    exact ⟨locks ⟨_, by omega⟩, locks ⟨_, by omega⟩, locks ⟨_, by omega⟩, locks ⟨_, by omega⟩⟩
  split
  · simp only [PartContent.lawful, fourOf, Vector.toList_mk, List.all_cons, List.all_nil, Bool.and_true, Bool.and_eq_true]
    exact ⟨barriers ⟨_, by omega⟩, barriers ⟨_, by omega⟩, barriers ⟨_, by omega⟩, barriers ⟨_, by omega⟩⟩
  · rfl

end

end Sys2Proof.Machine
end

section
/-!
SUPPORT. What the entries into the station states and the accepted frames do to the state, said once for every property that
their primitive updates keep (`State.Robust`, with those of the replica and of the order number).
-/

namespace Sys2Proof.Machine

/-- Whether a lock's record names a station. -/
def LockRecord.names (r : LockRecord) (t : Station) : Prop := r.holder = some t ∨ t ∈ r.waiters

/-- A robust property that an update of a lock, a barrier or a word keeps too, where it keeps the laws of the record and names
no other station than one of `listed`; under `law` the replica and the frames are lawful. -/
structure State.RobustItems (P : State → Prop) (law : Prop) (listed : Station → Prop) : Prop extends State.Robust P where
  lock : ∀ {s : State} (l : LockNo) {r : LockRecord}, ((s.lock l).lawful = true → r.lawful = true) →
    (∀ t, r.names t → (s.lock l).names t ∨ listed t) → P s → P (s.setLock l r)
  barrier : ∀ {s : State} (b : BarrierNo) {r : BarrierRecord}, (law → (s.barrier b).lawful = true → r.lawful = true) →
    (∀ t, hasStation r.arrived t = true → hasStation (s.barrier b).arrived t = true ∨ listed t) → P s → P (s.setBarrier b r)
  word : ∀ {s : State} (t : Station) (v : Word16), P s → P (s.setWord t v)

/-- A robust property that an update of the replica keeps too, where it keeps the laws of the records; under `law` the replica
and the frames are lawful. -/
structure State.RobustTable (P : State → Prop) (law : Prop) : Prop extends State.Robust P where
  table : ∀ {s : State} (f : TableUnit → TableUnit), (law → s.tu.lawful = true → (f s.tu).lawful = true) → P s →
    P (s.onTu f)

/-- One that also lets the order number become `n`. -/
structure State.RobustCount (P : State → Prop) (law : Prop) (n : Word16) : Prop extends State.RobustTable P law where
  order : ∀ {s : State} (g : AcceptanceUnit → AcceptanceUnit), (g s.au).order = n →
    ((g s.au).heard = none ∨ (g s.au).heard = s.au.heard) → P s → P (s.onAu g)

/-! ## The entries that keep the replica (R138 to R141) -/

namespace State.Robust

variable {P : State → Prop} (k : State.Robust P) {s : State}
include k

theorem enterDiverged (cause : Cause) (h : P s) : P (s.enterDiverged cause) :=
  k.indicate _ (k.life _ (fun joins => nomatch joins) h)

theorem enterJoining (cause : JoiningCause) (tag : Octet) (h : P s) : P (s.enterJoining cause tag) :=
  k.indicate _ (k.life _ (fun joins => nomatch joins) h)

theorem enterInStep (cause : Cause) (tag : Octet) (h : P s) : P (s.enterInStep cause tag) :=
  k.indicate _ (k.life _ (fun joins => nomatch joins) h)

theorem setClusterKnown (c : Bool) (h : P s) : P (s.setClusterKnown c) := k.unit _ rfl (.inr rfl) h

theorem takeLeave (h : P s) : P s.takeLeave := by
  unfold State.takeLeave
  split
  · exact k.removeRequest _ h
  · exact h

theorem breakOwnArrival (b : BarrierNo) (h : P s) : P (s.breakOwnArrival b) := by
  unfold State.breakOwnArrival
  dsimp only
  split
  · exact k.indicate _ (k.setArrival b _ h)
  · exact h

theorem settleRequest (h : P s) : P s.settleRequest := by
  unfold State.settleRequest
  split
  · exact k.removeRequest _ h
  · exact h

theorem settleAccepted (marked : Bool) (tag : Octet) (h : P s) : P (s.settleAccepted marked tag) :=
  k.indicateIf _ _ (k.uncount (k.dropAttempt (k.onLe _ h)))

theorem hearSilence (t : Station) (h : P s) : P (s.hearSilence t) := by
  unfold State.hearSilence
  split
  · exact k.timers _ rfl h
  · exact h

theorem hear (own : Bool) (f : Frame) (h : P s) : P (s.hear own f) := by
  have presence : P ((s.hearSilence f.sender).hearPresence own) := by
    unfold State.hearPresence
    split
    · exact k.timers _ rfl (k.hearSilence _ h)
    · exact k.hearSilence _ h
  unfold State.hear State.hearTransfer
  split
  · split
    · exact k.timers _ rfl presence
    · exact presence
  · exact presence

theorem grantHere (l : LockNo) (h : P s) : P (s.grantHere l) := k.indicate _ (k.setClaim l _ h)

theorem claimFromReplica (l : LockNo) (h : P s) : P (s.claimFromReplica l) := by
  unfold State.claimFromReplica
  dsimp only
  split
  · exact k.setClaim l _ h
  split
  · exact k.setClaim l _ h
  · exact k.setClaim l _ h

theorem reconcileLock (l : LockNo) (h : P s) : P (s.reconcileLock l) := by
  unfold State.reconcileLock
  dsimp only
  split
  · split
    · exact k.grantHere l h
    split
    · exact h
    · exact k.setClaim l _ h
  · exact h

theorem openHere (own : Bool) (b : BarrierNo) (g : Octet) (n : Nat) (h : P s) : P (s.openHere own b g n) := by
  unfold State.openHere
  dsimp only
  split
  · exact k.setArrival b _ (k.indicate _ h)
  · exact k.indicate _ h

theorem evaluateWatches (changed : Station → Bool) (h : P s) : P (s.evaluateWatches changed) := by
  refine List.foldlRecOn allSlots _ h fun t kept i _ => ?_
  unfold State.evaluateWatch
  dsimp only
  split
  · exact k.matchWatch i kept
  · exact kept

theorem applyPost (sender : Station) (own : Bool) (tag : Octet) (target : Station) (code : Octet) (h : P s) :
    P (s.applyPost sender own tag target code) := by
  unfold State.applyPost
  split
  · exact k.indicateIf _ _ h
  · exact k.indicateIf _ _ (k.indicateIf _ _ h)

end State.Robust

/-! ## The effects on locks, barriers and words (R87 step 7) -/

namespace State.RobustItems

variable {P : State → Prop} {law : Prop} {listed : Station → Prop} (k : State.RobustItems P law listed) {s : State}
include k

theorem passOn (l : LockNo) (h : P s) : P (s.passOn l) := by
  unfold State.passOn
  split
  · exact k.lock l (fun _ => freeLock_lawful) (fun t named => by simp [LockRecord.names, freeLock] at named) h
  · next w rest waiters =>
    have passed : P (s.setLock l ⟨some w, rest⟩) := by
      refine k.lock l (fun lawful => LockRecord.lawful_passed lawful waiters) (fun t named => .inl (.inr ?_)) h
      rw [waiters, List.mem_cons]
      exact named.imp (fun holder => (Option.some.inj holder).symm) id
    dsimp only
    split
    · exact k.grantHere l passed
    · exact passed

theorem leaveQueue (l : LockNo) (t : Station) (h : P s) :
    P (s.setLock l ⟨(s.lock l).holder, (s.lock l).waiters.erase t⟩) :=
  k.lock l (fun lawful => LockRecord.lawful_left lawful) (fun _ named => .inl (named.imp id List.mem_of_mem_erase)) h

theorem applyClaim {sender : Station} (member : listed sender) (own : Bool) (tag : Octet) (l : LockNo) (v : Flavour)
    (h : P s) : P (s.applyClaim sender own tag l v) := by
  unfold State.applyClaim
  dsimp only
  split
  · next free =>
    have taken : P (s.setLock l ⟨some sender, (s.lock l).waiters⟩) := by
      refine k.lock l (fun lawful => LockRecord.lawful_taken lawful free) (fun t named => ?_) h
      rcases named with holder | waits
      · exact .inr (Option.some.inj holder ▸ member)
      · exact .inl (.inr waits)
    split
    · exact k.grantHere l taken
    · exact taken
  next holder held =>
  split
  · split
    · exact k.claimFromReplica l (k.indicate _ h)
    · exact h
  next new =>
  obtain ⟨other, fresh⟩ := not_or.mp new
  split
  · have joined : P (s.setLock l ⟨some holder, (s.lock l).waiters ++ [sender]⟩) := by
      refine k.lock l (fun lawful => LockRecord.lawful_joined lawful held other fresh) (fun t named => ?_) h
      rcases named with same | waits
      · exact .inl (.inl (held.trans same))
      · rcases List.mem_append.mp waits with before | last
        · exact .inl (.inr before)
        · exact .inr (List.mem_singleton.mp last ▸ member)
    split
    · exact k.indicate _ (k.setClaim l _ joined)
    · exact joined
  · split
    · exact k.indicate _ (k.setClaim l _ h)
    · exact h

theorem applyRelease (sender : Station) (own : Bool) (tag : Octet) (l : LockNo) (h : P s) :
    P (s.applyRelease sender own tag l) := by
  unfold State.applyRelease
  split
  · dsimp only
    split
    · exact k.indicate _ (k.setClaim l _ (k.passOn l h))
    · exact k.passOn l h
  split
  · exact k.claimFromReplica l (k.indicate _ h)
  · exact h

theorem applyWithdraw (sender : Station) (own : Bool) (tag : Octet) (l : LockNo) (h : P s) :
    P (s.applyWithdraw sender own tag l) := by
  unfold State.applyWithdraw
  dsimp only
  split
  · split
    · exact k.indicate _ (k.setClaim l _ (k.leaveQueue l sender h))
    · exact k.leaveQueue l sender h
  split
  · split
    · exact k.indicate _ (k.setClaim l _ h)
    · exact h
  split
  · exact k.indicate _ (k.setClaim l _ h)
  · exact h

theorem nextUse (b : BarrierNo) (h : P s) : P (s.setBarrier b (s.barrier b).nextUse) :=
  k.barrier b (fun _ _ => BarrierRecord.nextUse_lawful)
    (fun t named => by simp [BarrierRecord.nextUse, hasStation] at named) h

theorem applyArrive {sender : Station} (member : listed sender) (own : Bool) (tag : Octet) (b : BarrierNo) {count : Nat}
    (party : law → 2 ≤ count ∧ count ≤ 16) (h : P s) : P (s.applyArrive sender own tag b count) := by
  have added {set : StationSet} (t : Station) (named : hasStation (addStation set sender) t = true) :
      hasStation set t = true ∨ listed t := by
    rw [hasStation_addStation, Bool.or_eq_true, decide_eq_true_eq] at named
    exact named.imp id (fun same : t = sender => same ▸ member)
  unfold State.applyArrive
  dsimp only
  split
  · split
    · exact k.setArrival b _ (k.indicate _ h)
    · exact h
  split
  · have first : P (s.setBarrier b ⟨(s.barrier b).generation, count, addStation 0 sender⟩) := by
      refine k.barrier b (fun holds _ => BarrierRecord.lawful_first (party holds).1 (party holds).2) (fun t named => ?_) h
      exact (added t named).imp (fun none => by simp [hasStation] at none) id
    split
    · exact k.setArrival b _ (k.indicate _ first)
    · exact first
  next opened =>
  split
  · split
    · exact k.setArrival b _ (k.indicate _ h)
    · exact h
  split
  · split
    · exact k.openHere own b _ _ (k.nextUse b h)
    · exact k.nextUse b h
  · next fewer =>
    have further := k.barrier b (fun _ lawful => BarrierRecord.lawful_further lawful opened fewer) added h
    split
    · exact k.setArrival b _ (k.indicate _ further)
    · exact further

theorem applyAbandon (sender : Station) (own : Bool) (tag : Octet) (b : BarrierNo) (g : Octet) (h : P s) :
    P (s.applyAbandon sender own tag b g) := by
  unfold State.applyAbandon
  dsimp only
  split
  · have without := k.barrier b (fun _ lawful => BarrierRecord.lawful_without (t := sender) lawful) (fun t named => by
      rw [hasStation_dropStation, Bool.and_eq_true] at named
      exact .inl named.1) h
    split
    · exact k.setArrival b _ (k.indicate _ without)
    · exact without
  split
  · exact k.setArrival b _ (k.indicate _ h)
  · exact h

theorem breakBarrier (gone : Station) (b : BarrierNo) (h : P s) : P (s.breakBarrier gone b) := by
  unfold State.breakBarrier
  dsimp only
  split
  · split
    · exact k.setArrival b _ (k.indicate _ (k.nextUse b h))
    · exact k.nextUse b h
  · exact h

theorem applyPublish (sender : Station) (own : Bool) (tag : Octet) (v : Word16) (h : P s) :
    P (s.applyPublish sender own tag v) :=
  k.evaluateWatches _ (k.indicateIf _ _ (k.word _ _ h))

theorem departLock (gone : Station) (l : LockNo) (h : P s) : P (s.departLock gone l) := by
  unfold State.departLock
  dsimp only
  split
  · split
    · exact k.passOn l h
    split
    · exact k.leaveQueue l gone h
    · exact h
  · exact h

theorem departItems (gone : Station) (h : P s) : P (s.departItems gone) := by
  have locks := List.foldlRecOn allLocks _ h fun t kept l _ => k.departLock gone l (s := t) kept
  have barriers := List.foldlRecOn allBarriers _ locks fun t kept b _ => k.breakBarrier gone b (s := t) kept
  unfold State.departItems State.departWord
  split
  · exact k.evaluateWatches _ (k.word _ _ barriers)
  · exact barriers

end State.RobustItems

/-! ## The entries that discard the replica (R135, R136) and the effects on it (R87 step 7) -/

namespace State.RobustTable

variable {P : State → Prop} {law : Prop} (k : State.RobustTable P law) {s : State}
include k

theorem discardReplica (h : P s) : P s.discardReplica := k.table _ (fun _ _ => TableUnit.lawful_resetValue) h

theorem discardRecords (h : P s) : P s.discardRecords :=
  k.queue (fun _ => []) (shortens_of_sublist (List.nil_sublist _))
    (k.records (fun p => { p with claims := resetClaims, arrivals := resetArrivals, watches := resetWatches }) rfl rfl rfl h)

theorem enterOutside (cause : Cause) (tag : Octet) (h : P s) : P (s.enterOutside cause tag) := by
  have cleared : P (s.discardReplica.discardRecords.enterCleared .outside) :=
    k.life _ (fun _ => .inr rfl) (k.discardRecords (k.discardReplica h))
  refine k.indicate _ (k.attempt _ (fun a held => ?_) (k.uncount cleared))
  obtain ⟨b, mem, rfl⟩ := Option.map_eq_some_iff.mp held
  exact ⟨b, mem, rfl⟩

theorem leaveClusterFor (cause : Cause) (h : P s) : P (s.leaveClusterFor cause) := k.enterOutside _ _ (k.takeLeave h)

theorem loseCluster (h : P s) : P s.loseCluster := k.leaveClusterFor _ (k.setClusterKnown _ h)

theorem enterHalted (cause : Cause) (h : P s) : P (s.enterHalted cause) := by
  have dropped : P ((s.onLe LineEngine.halt).onAu (fun a => { a with orderHold := false, partialFrame := [], heard := none })) :=
    k.unit _ rfl (.inl rfl) (k.onLe _ h)
  exact k.indicate _ (k.attempt _ (fun _ none => nomatch none)
    (k.life _ (fun joins => nomatch joins) (k.discardRecords (k.discardReplica dropped))))

theorem expireTransfer (h : P s) : P s.expireTransfer := by
  unfold State.expireTransfer
  split
  · exact k.loseCluster h
  · exact h

theorem faultDriver (h : P s) : P s.faultDriver := by
  unfold State.faultDriver
  split
  · exact k.enterHalted _ h
  · exact h

theorem orderAttempt (f : Frame) (h : P s) : P (s.orderAttempt f) := by
  have ended (t : State) (held : P t) : P ((t.setOrderHold true).actOnOrder f) := by
    have hold : P (t.setOrderHold true) := k.unit _ rfl (.inr rfl) held
    unfold State.actOnOrder
    split
    · exact k.enterDiverged _ hold
    · split
      · exact hold
      · exact k.leaveClusterFor _ hold
    · split
      · exact k.setClusterKnown _ hold
      · exact hold
    · exact hold
    · exact hold
    · exact hold
  have yielded : P s.setYield := k.onLe _ h
  unfold State.orderAttempt
  dsimp only
  split
  · exact ended _ (k.dropAttempt yielded)
  · exact ended _ (k.dropAttempt (k.cancelMarked yielded))

/-! ### The roster and departures -/

/-- An update of the whole replica makes those of its items. -/
theorem items : State.RobustItems P law (fun _ => True) where
  toRobust := k.toRobust
  lock {s} l _ record _ h :=
    k.table _ (fun _ lawful => TableUnit.lawful_setLock l lawful (record (((TableUnit.lawful_iff s.tu).mp lawful).1 l))) h
  barrier {s} b _ record _ h :=
    k.table _ (fun holds lawful =>
      TableUnit.lawful_setBarrier b lawful (record holds (((TableUnit.lawful_iff s.tu).mp lawful).2.1 b))) h
  word _ _ h := k.table _ (fun _ lawful => lawful) h

theorem setEntry (t : Station) {e : RosterEntry} (entry : (s.entry t).lawful = true → e.lawful = true) (h : P s) :
    P (s.setEntry t e) :=
  k.table _ (fun _ lawful =>
    TableUnit.lawful_setEntry t lawful (entry (((TableUnit.lawful_iff s.tu).mp lawful).2.2 t))) h

theorem depart (gone : Station) (peer : Indication) (wasInStep : Bool) (h : P s) : P (s.depart gone peer wasInStep) := by
  have listed : P ((s.setEntry gone absentEntry).setSilence gone .cleared) :=
    k.timers _ rfl (k.setEntry gone (fun _ => by decide) h)
  unfold State.depart
  dsimp only
  split
  · exact k.loseCluster listed
  · exact k.items.departItems gone (k.indicateIf _ _ listed)

theorem setJoining (t : Station) (h : P s) : P (s.setEntry t joiningEntry) := k.setEntry t (fun _ => rfl) h

theorem applyJoin (sender : Station) (wasInStep : Bool) (h : P s) : P (s.applyJoin sender wasInStep) := by
  unfold State.applyJoin
  split
  · exact k.hearSilence _ (k.indicateIf _ _ (k.setJoining _ h))
  · dsimp only
    split
    · exact k.depart _ _ _ h
    · exact k.hearSilence _ (k.setJoining _ (k.depart _ _ _ h))

theorem applyLeave (sender : Station) (wasInStep : Bool) (h : P s) : P (s.applyLeave sender wasInStep) := by
  unfold State.applyLeave
  split
  · exact h
  · exact k.depart _ _ _ h

theorem applyEvict (sender target : Station) (wasInStep : Bool) (h : P s) : P (s.applyEvict sender target wasInStep) := by
  unfold State.applyEvict
  split
  · exact h
  · exact k.depart _ _ _ h

theorem applyResync (sender : Station) (wasInStep : Bool) (h : P s) : P (s.applyResync sender wasInStep) := by
  unfold State.applyResync
  dsimp only
  split
  · exact k.loseCluster (k.setJoining _ h)
  · exact List.foldlRecOn allBarriers _ (k.indicateIf _ _ (k.setJoining _ h)) fun t kept b _ =>
      k.items.breakBarrier sender b (s := t) kept

/-! ### Snapshots -/

theorem rosterStep (p : PartNo) (wasInStep : Bool) (h : P s) : P (s.rosterStep p wasInStep) :=
  List.foldlRecOn allStations _ h fun t kept station _ =>
    k.indicateIf _ _ (k.setEntry station (s := t) (fun lawful => RosterEntry.gain_lawful p lawful) kept)

theorem settleInstall (content : PartContent) (h : P s) : P (s.settleInstall content) := by
  cases content with
  | roster | barriers => exact h
  | locks g ls => exact List.foldlRecOn _ _ h fun t kept l _ => k.reconcileLock l (s := t) kept
  | words g ws => exact k.evaluateWatches _ h

theorem installPart {content : PartContent} (lawful : law → content.lawful = true) (h : P s) : P (s.installPart content) := by
  have added : P (((s.onTu (·.replace content)).settleInstall content).onTu
      (fun x => { x with installed := addPart x.installed content.part })) :=
    k.table _ (fun _ held => held)
      (k.settleInstall content (k.table _ (fun holds held => TableUnit.lawful_replace held (lawful holds)) h))
  unfold State.installPart
  dsimp only
  split
  · exact k.enterInStep _ _ added
  · exact added

theorem applySnapshot {content : PartContent} (lawful : law → content.lawful = true) (wasInStep : Bool) (h : P s) :
    P (s.applySnapshot content wasInStep) := by
  unfold State.applySnapshot
  dsimp only
  split
  · exact k.installPart lawful (k.rosterStep _ _ h)
  · exact k.rosterStep _ _ h

theorem installFirst (sender : Station) {content : PartContent} (lawful : law → content.lawful = true) (h : P s) :
    P (s.installFirst sender content) := by
  unfold State.installFirst
  split
  · split
    · split
      · exact k.rosterStep _ _ (k.installPart lawful h)
      · exact k.loseCluster h
    · exact h
  · exact h
  · exact h
  · exact h

/-! ### The effect of a frame (R87 step 7) -/

theorem applyFrame (own : Bool) (tag : Octet) {f : Frame} (lawful : law → f.lawful = true) (h : P s) :
    P (s.applyFrame own tag f) := by
  have when (c : Bool) {t : State} (kept : P t) : P (if c then t else s) := by
    split
    · exact kept
    · exact h
  unfold State.applyFrame
  dsimp only
  split
  swap
  · exact h
  cases body : f.body with
  | join _ => exact k.applyJoin _ _ h
  | leave => exact k.applyLeave _ _ h
  | presence => exact h
  | evict t => exact when _ (k.applyEvict _ _ _ h)
  | resync => exact when _ (k.applyResync _ _ h)
  | release l => exact when _ (k.items.applyRelease _ _ _ _ h)
  | withdraw l => exact when _ (k.items.applyWithdraw _ _ _ _ h)
  | claim l v => exact when _ (k.items.applyClaim trivial _ _ _ _ h)
  | abandon b g => exact when _ (k.items.applyAbandon _ _ _ _ _ h)
  | arrive b n =>
    refine when _ (k.items.applyArrive trivial _ _ _ (fun holds => ?_) h)
    simpa [Frame.lawful, body, FrameBody.lawful] using lawful holds
  | publish v => exact when _ (k.items.applyPublish _ _ _ _ h)
  | post t c => exact when _ (k.applyPost _ _ _ _ _ h)
  | snapshot content =>
    refine when _ (k.applySnapshot (fun holds => ?_) _ h)
    simpa [Frame.lawful, body, FrameBody.lawful] using lawful holds

theorem takeResync (h : P s) : P s.takeResync := by
  have emptied : P (s.onTu (fun u => { u with installed := 0 })) := k.table _ (fun _ lawful => lawful) h
  exact k.enterJoining _ _ (List.foldlRecOn allBarriers _ emptied fun t kept b _ => k.breakOwnArrival b (s := t) kept)

theorem applyStep (c : Counting) (before : StationState) (own : Bool) (tag : Octet) {f : Frame}
    (lawful : law → f.lawful = true) (h : P s) : P (s.applyStep c before own tag f) := by
  unfold State.applyStep
  split
  · split
    · exact k.applyFrame own tag lawful h
    · split
      · next content body =>
        split
        · refine k.installFirst _ (fun holds => ?_) h
          simpa [Frame.lawful, body, FrameBody.lawful] using lawful holds
        · exact h
      · exact h
    · exact h
    · exact h
  · exact h

end State.RobustTable

/-! ## The accepted frame (R87) and the end of its slot -/

namespace State.RobustCount

variable {P : State → Prop} {law : Prop} {f : Frame} (k : State.RobustCount P law (f.order + 1)) {s : State}
include k

theorem takeNamed (own : Bool) (tag : Octet) (h : P s) : P (s.takeNamed own tag f) := by
  have founded : P (s.found f.order tag) :=
    k.enterInStep _ _ (k.table _ (fun _ _ => TableUnit.lawful_founding _) (k.order _ rfl (.inr rfl) h))
  unfold State.takeNamed
  split
  · split
    · split
      · exact founded
      · exact k.enterJoining _ _ h
    · exact h
  · split
    · exact k.enterOutside _ _ h
    · exact h
  · split
    · exact k.enterOutside _ _ h
    · exact h
  · split
    · exact k.takeResync h
    · exact h
  all_goals exact h

theorem takeOwnState (c : Counting) (own : Bool) (tag : Octet) (h : P s) : P (s.takeOwnState c own tag f) := by
  cases c with
  | apply => exact k.takeNamed own tag h
  | track => exact k.takeNamed own tag h
  | diverge => exact k.takeNamed own tag (k.enterDiverged _ h)
  | leaveCluster => exact k.leaveClusterFor _ h

theorem handAccepted (own : Bool) (lawful : law → f.lawful = true) (h : P s) : P (s.handAccepted own f) := by
  have settled : P ((if own then s.settleRequest else s).setClusterKnown true) := by
    cases own with
    | true => exact k.setClusterKnown _ (k.settleRequest h)
    | false => exact k.setClusterKnown _ h
  have counted (c : Counting) (before : StationState) (tag : Octet) :
      P ((((((if own then s.settleRequest else s).setClusterKnown true).takeOwnState c own tag f).hear own f).applyStep
        c before own tag f).countOrder f) :=
    k.order _ rfl (.inr rfl) (k.applyStep _ _ _ _ lawful (k.hear _ _ (k.takeOwnState _ _ _ settled)))
  unfold State.handAccepted
  dsimp only
  cases own with
  | true => exact k.settleAccepted _ _ (counted _ _ _)
  | false => exact counted _ _ _

theorem acceptFrame (own : Bool) (lawful : law → f.lawful = true) (h : P s) : P (s.acceptFrame own (some f)) := by
  unfold State.acceptFrame
  split
  · exact k.setClusterKnown _ h
  next g hand =>
  obtain rfl := Option.some.inj hand
  split
  · exact k.enterHalted _ h
  · exact k.handAccepted own lawful h

end State.RobustCount

end Sys2Proof.Machine
end

section
/-!
SUPPORT. The step of a property that every update keeps, the queues of the host port among them; and the statements on what
frames alone change, on the two queues, and on the laws of the replica.
-/

namespace Sys2Proof.Machine

/-! ## The end of a slot and the faults -/

namespace State.RobustTable

variable {P : State → Prop} {law : Prop} (k : State.RobustTable P law) {s : State}
include k

/-- The end of a slot keeps the property where the frame that it accepts does (R80, R109). -/
theorem closeSlot (seen : SlotSeen) (accepted : ∀ x f, s.au.heard = some x → x.classification = .good f →
    seen = .nothing → P (s.endSlot.acceptFrame x.own (some f))) (h : P s) : P (s.closeSlot seen) := by
  have ended : P s.endSlot := k.endSlot h
  unfold State.closeSlot
  split
  swap
  · exact h
  split
  swap
  · exact ended
  next x heard =>
  split
  · exact k.enterHalted _ h
  unfold State.takeOutcome
  split
  · next outcome =>
    have nothing : seen = .nothing := by
      by_contra other
      exact slotOutcome_ne_accepted other outcome
    cases good : x.classification with
    | good f => exact accepted x f heard good nothing
    | badCheck => exact k.setClusterKnown _ ended
    | malformed => exact k.setClusterKnown _ ended
  · split
    · exact k.failAttempt ended
    · exact ended
  · split
    · exact k.orderAttempt _ ended
    · exact ended

omit k in
theorem unlessReset {effect : State → State} (kept : P (effect s)) (h : P s) : P (s.unlessReset effect) := by
  unfold State.unlessReset
  split
  · exact h
  · exact kept

/-- A command that neither resets the station nor ends a slot. -/
theorem exec {c : Instr} {t : State} (window : P s.readWindow) (runs : exec c s = .next t)
    (reset : ∀ n b, c ≠ .powerOnReset n b) (restart : ∀ o, c ≠ .restart o) (clear : ∀ o, c ≠ .clearOverrun o)
    (rewind : ∀ o, c ≠ .rewind o) (slot : ∀ seen, c ≠ .slotWindowEnd seen) (h : P s) : P t := by
  by_cases calm : isCalm c = true
  · exact k.toRobust.exec calm runs h
  · cases c with
    | powerOnReset n b => exact absurd rfl (reset n b)
    | restart o => exact absurd rfl (restart o)
    | clearOverrun o => exact absurd rfl (clear o)
    | rewind o => exact absurd rfl (rewind o)
    | slotWindowEnd seen => exact absurd rfl (slot seen)
    | indicationWindow => exact Host.Outcome.next.inj runs ▸ unlessReset window h
    | driverFault => exact Host.Outcome.next.inj runs ▸ unlessReset (k.faultDriver h) h
    | transferTimerExpiry => exact Host.Outcome.next.inj runs ▸ unlessReset (k.expireTransfer h) h
    | _ => exact absurd rfl calm

end State.RobustTable

/-! ## What frames alone change (R82, scope section 2) -/

/-- A property of the order number and the replica alone. -/
theorem State.robust_of_fields (Q : Word16 → TableUnit → Prop) : State.Robust (fun s => Q s.au.order s.tu) where
  shell au tu _ _ _ h := by rw [au, tu]; exact h
  unit f order _ h := by rw [State.onAu_au, order]; exact h
  life _ _ h := h
  attempt _ _ h := h
  records _ _ _ _ h := h
  queue _ _ h := h
  indicate _ h := h
  enqueue _ h := h
  start {s item body} _ h := by rw [State.startAttempt_eq item body s]; exact h
  ownHeard _ h := h
  peerHeard _ h := h

/-- A property of the order number alone. -/
theorem State.robustTable_of_order (Q : Word16 → Prop) (law : Prop) : State.RobustTable (fun s => Q s.au.order) law where
  toRobust := State.robust_of_fields (fun n _ => Q n)
  table _ _ h := h

/-- A property of the order number alone, that the count of the frame satisfies. -/
theorem State.robustCount_of_order {Q : Word16 → Prop} {n : Word16} (counted : Q n) (law : Prop) :
    State.RobustCount (fun s => Q s.au.order) law n where
  toRobustTable := State.robustTable_of_order Q law
  order g order _ _ := by rw [State.onAu_au, order]; exact counted

/-- A write to PORT CONTROL restarts the station, or moves the read position and OVERRUN alone (R172). -/
theorem State.portControl_cases (o : Octet) (s : State) : s.portControl o = s.portRestart ∨
    ∃ p : HostPort, s.portControl o = { s with hp := p } := by
  unfold State.portControl
  split
  · exact .inl rfl
  · refine .inr ?_
    dsimp only
    split <;> split <;> exact ⟨_, rfl⟩

theorem exec_order (c : Instr) (s t : State) (runs : exec c s = .next t) (reset : ∀ n b, c ≠ .powerOnReset n b)
    (restart : ∀ o, c ≠ .restart o) (clear : ∀ o, c ≠ .clearOverrun o) (rewind : ∀ o, c ≠ .rewind o)
    (slot : ∀ seen, c ≠ .slotWindowEnd seen) : t.au.order = s.au.order :=
  (State.robustTable_of_order (· = s.au.order) True).exec (P := fun t => t.au.order = s.au.order) rfl runs reset restart
    clear rewind slot rfl

/-- At the end of a slot the order number stays, or the frame in the slot is counted (R82, R83). -/
theorem closeSlot_order (seen : SlotSeen) (s : State) : (s.closeSlot seen).au.order = s.au.order ∨
    ∃ h f, s.au.heard = some h ∧ h.classification = .good f ∧ seen = .nothing ∧
      (s.closeSlot seen).au.order = f.order + 1 := by
  let Q : Word16 → Prop := fun n => n = s.au.order ∨
    ∃ h f, s.au.heard = some h ∧ h.classification = .good f ∧ seen = .nothing ∧ n = f.order + 1
  refine (State.robustTable_of_order Q True).closeSlot seen (fun h f heard good nothing => ?_) (.inl rfl)
  exact (State.robustCount_of_order (Q := Q) (.inr ⟨h, f, heard, good, nothing, rfl⟩) False).acceptFrame h.own
    False.elim (s := s.endSlot) (.inl rfl)

/-- No command but the end of a slot changes the replica otherwise than by discarding it. -/
theorem exec_tu (c : Instr) (s t : State) (runs : exec c s = .next t) (slot : ∀ seen, c ≠ .slotWindowEnd seen) :
    t.tu = s.tu ∨ (t.tu = emptyReplica ∧ (t.station = .watch ∨ t.station = .outside ∨ t.station = .halted)) := by
  let P : State → Prop := fun t =>
    t.tu = s.tu ∨ (t.tu = emptyReplica ∧ (t.station = .watch ∨ t.station = .outside ∨ t.station = .halted))
  have same : P s := .inl rfl
  by_cases calm : isCalm c = true
  · exact .inl ((State.robust_of_fields (fun _ u => u = s.tu)).exec calm runs rfl)
  have control {o : Octet} : P (s.portControl o) := by
    rcases s.portControl_cases o with restarted | ⟨p, kept⟩
    · rw [restarted]; exact .inr ⟨rfl, .inl rfl⟩
    · rw [kept]; exact same
  cases c with
  | powerOnReset n b => exact Host.Outcome.next.inj runs ▸ .inr ⟨rfl, .inl rfl⟩
  | restart o | clearOverrun o | rewind o =>
    exact Host.Outcome.next.inj runs ▸ State.RobustTable.unlessReset (P := P) control same
  | slotWindowEnd seen => exact absurd rfl (slot seen)
  | indicationWindow => exact Host.Outcome.next.inj runs ▸ State.RobustTable.unlessReset (P := P) (.inl rfl) same
  | driverFault =>
    refine Host.Outcome.next.inj runs ▸ State.RobustTable.unlessReset (P := P) ?_ same
    unfold State.faultDriver
    split
    · exact .inr ⟨rfl, .inr (.inr rfl)⟩
    · exact same
  | transferTimerExpiry =>
    refine Host.Outcome.next.inj runs ▸ State.RobustTable.unlessReset (P := P) ?_ same
    unfold State.expireTransfer
    split
    · exact .inr ⟨rfl, .inr (.inl rfl)⟩
    · exact same
  | _ => exact absurd rfl calm

/-- Settles O60: every primitive update but the counting of a frame keeps the order number, and the entries that discard the
replica are the only effects on it outside the end of a slot. -/
theorem whatFramesAloneChange : Obligations.WhatFramesAloneChange := by
  refine ⟨fun c s t runs reset => ⟨exec_order c s t runs reset, ?_⟩, exec_tu⟩
  rintro seen rfl
  obtain rfl := Host.Outcome.next.inj runs
  unfold State.unlessReset
  split
  · exact .inl rfl
  · exact closeSlot_order seen s

end Sys2Proof.Machine
end

section
/-!
SUPPORT. The invariants of the host port's queues and of the replica's records: each is kept by the primitive updates, and so by
every step.
-/

namespace Sys2Proof.Machine

/-! ## The step of a property that every update keeps -/

/-- A property that every update keeps; under `law`, one under which the frame in the slot is lawful. -/
structure State.Kept (P : State → Prop) (law : Prop) : Prop where
  count : ∀ n, State.RobustCount P law n
  reset : ∀ {s : State} (straps : Straps), P s → P (State.afterReset straps s.hostData s.pending)
  restart : ∀ {s : State}, P s → P s.portRestart
  rewind : ∀ {s : State}, P s → P s.rewind
  window : ∀ {s : State}, P s → P s.readWindow
  frames : ∀ {s : State} {x : HeardFrame} {f : Frame}, law → P s → s.au.heard = some x → x.classification = .good f →
    f.lawful = true

namespace State.Kept

variable {P : State → Prop} {law : Prop} (k : State.Kept P law) {s : State}
include k

theorem portControl (o : Octet) (h : P s) : P (s.portControl o) := by
  have cleared : P s.clearOverrun := (k.count 0).records _ rfl rfl rfl h
  unfold State.portControl
  split
  · exact k.restart h
  · dsimp only
    split <;> split
    · exact k.rewind cleared
    · exact k.rewind h
    · exact cleared
    · exact h

theorem exec {c : Instr} {t : State} (runs : exec c s = .next t) (h : P s) : P t := by
  cases c with
  | powerOnReset n b => exact Host.Outcome.next.inj runs ▸ k.reset _ h
  | restart o | clearOverrun o | rewind o =>
    exact Host.Outcome.next.inj runs ▸ State.RobustTable.unlessReset (k.portControl o h) h
  | slotWindowEnd seen =>
    refine Host.Outcome.next.inj runs ▸ State.RobustTable.unlessReset ((k.count 0).closeSlot seen ?_ h) h
    intro x f heard good _
    exact (k.count _).acceptFrame x.own (fun holds => k.frames holds h heard good) ((k.count 0).endSlot h)
  | _ =>
    exact (k.count 0).toRobustTable.exec (k.window h) runs (fun _ _ => nofun) (fun _ => nofun) (fun _ => nofun)
      (fun _ => nofun) (fun _ => nofun) h

/-- A property that every update keeps is an invariant. -/
theorem step {t : State} (runs : step s = .next t) (h : P s) : P t := by
  unfold Sys2Proof.Machine.step at runs
  split at runs
  · exact Host.Outcome.next.inj runs ▸ State.RobustTable.unlessReset ((k.count 0).winHead h) h
  · exact k.exec runs ((k.count 0).shell (s := s) rfl rfl rfl rfl rfl h)

end State.Kept

/-! ## The indication queue (R165, R166) -/

theorem State.indicationsBounded_iff (s : State) : s.indicationsBounded = true ↔
    s.hp.indications.length ≤ 16 ∧ (s.hp.indications = [] → s.hp.readPos = 0) := by
  cases queue : s.hp.indications <;> simp [State.indicationsBounded, queue]

/-- A property of the indication queue and the read position, whatever else changes. -/
theorem State.indicationsBounded_of_eq {s t : State} (indications : t.hp.indications = s.hp.indications)
    (position : t.hp.readPos = s.hp.readPos) (h : s.indicationsBounded = true) : t.indicationsBounded = true := by
  rw [State.indicationsBounded, indications, position]
  exact h

theorem State.indicationsBounded_indicate {s : State} (r : Indication) (h : s.indicationsBounded = true) :
    (s.indicate r).indicationsBounded = true := by
  rw [State.indicationsBounded_iff] at h ⊢
  obtain ⟨few, empty⟩ := h
  refine ⟨s.indicate_length r few, fun none => ?_⟩
  rw [State.indicate_hp_readPos]
  refine empty ?_
  by_contra some
  exact s.indicate_ne_nil r some none

theorem State.indicationsBounded_readWindow {s : State} (h : s.indicationsBounded = true) :
    s.readWindow.indicationsBounded = true := by
  rw [State.indicationsBounded_iff] at h ⊢
  obtain ⟨few, empty⟩ := h
  cases queue : s.hp.indications with
  | nil => simpa [State.readWindow, HostPort.advance, queue] using empty queue
  | cons r rest =>
    rw [queue, List.length_cons] at few
    by_cases last : s.hp.readPos = 4
    · simp [State.readWindow, HostPort.advance, queue, last]
      omega
    · simp [State.readWindow, HostPort.advance, queue, last]
      omega

theorem State.kept_indicationsBounded : State.Kept (fun s => s.indicationsBounded = true) False where
  count n :=
    { shell := fun _ _ _ _ hp h => by rw [State.indicationsBounded, hp]; exact h
      unit := fun _ _ _ h => h
      life := fun _ _ h => h
      attempt := fun _ _ h => h
      records := fun _ _ indications position h => State.indicationsBounded_of_eq indications position h
      queue := fun _ _ h => h
      indicate := fun r h => State.indicationsBounded_indicate r h
      enqueue := fun _ h => h
      start := fun {s item body} _ h => by rw [State.startAttempt_eq item body s]; exact h
      ownHeard := fun _ h => h
      peerHeard := fun _ h => h
      table := fun _ _ h => h
      order := fun _ _ _ h => h }
  reset _ _ := rfl
  restart _ := State.indicationsBounded_indicate _ rfl
  rewind h := (State.indicationsBounded_iff _).mpr ⟨((State.indicationsBounded_iff _).mp h).1, fun _ => rfl⟩
  window h := State.indicationsBounded_readWindow h
  frames holds := holds.elim

/-! ## The request queue (R159 to R161) -/

theorem HostPort.advance_queue (h : HostPort) : h.advance.queue = h.queue := by
  unfold HostPort.advance
  split
  · rfl
  · split <;> rfl

theorem State.requestsLawful_iff (s : State) : s.requestsLawful = true ↔ s.hp.queue.length ≤ 8 ∧
    (s.hp.queue.map (·.tag)).Nodup ∧ (∀ r ∈ s.hp.queue, r.tag ≠ 0) ∧ (∀ r ∈ s.hp.queue.drop 1, r.inAttempt = false) ∧
    (s.station.joinsOnly = true → s.hp.queue.length ≤ 1 ∧ ∀ r ∈ s.hp.queue, r.body = .join) := by
  simp only [State.requestsLawful, Bool.and_eq_true, Bool.or_eq_true, decide_eq_true_eq, List.all_eq_true, bne_iff_ne,
    Bool.not_eq_true', beq_iff_eq, and_assoc]
  cases s.station.joinsOnly <;> simp

theorem State.requestsLawful_of_eq {s t : State} (queue : t.hp.queue = s.hp.queue) (mc : t.mc = s.mc)
    (h : s.requestsLawful = true) : t.requestsLawful = true := by
  rw [State.requestsLawful, State.station, queue, mc]
  exact h

theorem State.requestsLawful_of_shortens {s t : State} (shorter : Shortens s.hp.queue t.hp.queue)
    (station : t.station = s.station) (h : s.requestsLawful = true) : t.requestsLawful = true := by
  obtain ⟨mark, marks, sub⟩ := shorter
  obtain ⟨few, tags, named, unmarked, joins⟩ := s.requestsLawful_iff.mp h
  have length : t.hp.queue.length ≤ s.hp.queue.length := by simpa using sub.length_le
  have sameTags : (s.hp.queue.map mark).map (·.tag) = s.hp.queue.map (·.tag) := by
    rw [List.map_map]; exact List.map_congr_left fun r _ => (marks r).1
  have rests : (t.hp.queue.drop 1).Sublist ((s.hp.queue.drop 1).map mark) := by
    rw [List.map_drop]; exact sub.drop 1
  refine t.requestsLawful_iff.mpr ⟨length.trans few, (sameTags ▸ sub.map (fun r : Request => r.tag)).nodup tags, fun r mem => ?_,
    fun r mem => ?_, fun outside => ?_⟩
  · obtain ⟨q, old, rfl⟩ := List.mem_map.mp (sub.subset mem)
    rw [(marks q).1]
    exact named q old
  · obtain ⟨q, old, rfl⟩ := List.mem_map.mp (rests.subset mem)
    by_contra marked
    rw [Bool.not_eq_false] at marked
    exact Bool.noConfusion ((unmarked q old).symm.trans ((marks q).2.2 marked))
  · obtain ⟨one, bodies⟩ := joins (station ▸ outside)
    refine ⟨length.trans one, fun r mem => ?_⟩
    obtain ⟨q, old, rfl⟩ := List.mem_map.mp (sub.subset mem)
    rw [(marks q).2.1]
    exact bodies q old

theorem State.requestsLawful_enqueue {s : State} {body : RequestBody} {tag : Octet} (may : s.MayQueue body tag)
    (h : s.requestsLawful = true) : (s.enqueue body tag).requestsLawful = true := by
  obtain ⟨few, tags, named, unmarked, joins⟩ := s.requestsLawful_iff.mp h
  have fresh : ∀ r ∈ s.hp.queue, r.tag ≠ tag := by simpa [State.tagQueued] using may.fresh
  have empty (outside : s.station.joinsOnly = true) : s.hp.queue = [] := by
    cases queue : s.hp.queue with
    | nil => rfl
    | cons r rest =>
      have none := (may.joins outside).2
      have join := (joins outside).2 r (queue ▸ List.mem_cons_self)
      simp [queue, join] at none
  have room : s.hp.queue.length < 8 := by
    cases outside : s.station.joinsOnly with
    | false => exact may.room outside
    | true => rw [empty outside]; decide
  refine (s.enqueue body tag).requestsLawful_iff.mpr ⟨?_, ?_, ?_, ?_, fun outside => ?_⟩
  · simpa [State.enqueue] using room
  · simpa [State.enqueue, List.nodup_append, tags] using fun r mem same => fresh r mem same
  · simpa [State.enqueue, or_imp, forall_and] using ⟨named, may.named⟩
  · cases queue : s.hp.queue with
    | nil => simp [State.enqueue, queue]
    | cons r rest =>
      rw [queue] at unmarked
      simpa [State.enqueue, queue, or_imp, forall_and] using unmarked
  · simp [State.enqueue, empty outside, (may.joins outside).1]

theorem State.requestsLawful_startAttempt {s : State} {item : Item} {body : FrameBody} (h : s.requestsLawful = true) :
    (s.startAttempt item body).requestsLawful = true := by
  rw [State.startAttempt_eq]
  cases item with
  | request tag =>
    cases queue : s.hp.queue with
    | nil => exact State.requestsLawful_of_eq queue.symm rfl h
    | cons r rest => simpa [State.requestsLawful, State.station, Item.marked, queue] using h
  | evict | resync | snapshot | presence => exact h

theorem State.kept_requestsLawful : State.Kept (fun s => s.requestsLawful = true) False where
  count n :=
    { shell := fun _ _ mc _ hp h => State.requestsLawful_of_eq (congrArg (·.queue) hp) mc h
      unit := fun _ _ _ h => h
      life := fun {s} f may h => by
        obtain ⟨few, tags, named, unmarked, joins⟩ := s.requestsLawful_iff.mp h
        refine (s.onMc f).requestsLawful_iff.mpr ⟨few, tags, named, unmarked, fun outside => ?_⟩
        rcases may outside with before | empty
        · exact joins before
        · simp [empty]
      attempt := fun _ _ h => h
      records := fun _ queue _ _ h => State.requestsLawful_of_eq queue rfl h
      queue := fun _ shorter h => State.requestsLawful_of_shortens shorter rfl h
      indicate := fun r h => State.requestsLawful_of_eq (State.indicate_hp_queue r _) rfl h
      enqueue := fun may h => State.requestsLawful_enqueue may h
      start := fun _ h => State.requestsLawful_startAttempt h
      ownHeard := fun _ h => h
      peerHeard := fun _ h => h
      table := fun _ _ h => h
      order := fun _ _ _ h => h }
  reset _ _ := rfl
  restart _ := State.requestsLawful_of_eq (State.indicate_hp_queue _ _) rfl rfl
  rewind h := h
  window {s} h := State.requestsLawful_of_eq (s := s) s.hp.advance_queue rfl h
  frames holds := holds.elim

/-- Settles O56: both queue invariants are kept by every primitive update. -/
theorem queuesStayLawful : Obligations.QueuesStayLawful :=
  ⟨fun _ _ h runs => State.kept_indicationsBounded.step runs h, fun _ _ h runs => State.kept_requestsLawful.step runs h⟩

end Sys2Proof.Machine
end

section
/-!
SUPPORT. The replica and every frame and request that can change it stay lawful: what a request builds is lawful where it is,
and what is read of the line is lawful because the reader refuses anything else.
-/

namespace Sys2Proof.Machine

theorem State.replicaLawful_iff (s : State) : s.replicaLawful = true ↔ s.tu.lawful = true ∧
    (∀ r ∈ s.hp.queue, r.body.lawful = true) ∧ (∀ a, s.ss.attempt = some a → a.frame.lawful = true) ∧
    ∀ x, s.au.heard = some x → x.classification.lawful = true := by
  simp only [State.replicaLawful, Bool.and_eq_true, List.all_eq_true, and_assoc]
  refine and_congr_right fun _ => and_congr_right fun _ => and_congr ?_ ?_
  · cases s.ss.attempt <;> simp
  · cases s.au.heard <;> simp

/-- What the property depends on: an update of anything else keeps it. -/
theorem State.replicaLawful_of {s t : State} (tu : s.tu.lawful = true → t.tu.lawful = true)
    (queue : (∀ r ∈ s.hp.queue, r.body.lawful = true) → ∀ r ∈ t.hp.queue, r.body.lawful = true)
    (attempt : (∀ a, s.ss.attempt = some a → a.frame.lawful = true) → ∀ a, t.ss.attempt = some a → a.frame.lawful = true)
    (heard : (∀ x, s.au.heard = some x → x.classification.lawful = true) →
      ∀ x, t.au.heard = some x → x.classification.lawful = true) (h : s.replicaLawful = true) : t.replicaLawful = true := by
  obtain ⟨table, requests, frame, slot⟩ := s.replicaLawful_iff.mp h
  exact t.replicaLawful_iff.mpr ⟨tu table, queue requests, attempt frame, heard slot⟩

/-- What is classed good is lawful (R74 to R76). -/
theorem classify_lawful (chars : List Character) : (classify chars).lawful = true := by
  cases read : classify chars with
  | good f => exact (of_classify read).2.2
  | badCheck => rfl
  | malformed => rfl

/-- What an item builds is lawful where the replica and the request are (R69, R71). -/
theorem State.buildBody_lawful {s : State} {item : Item} {body : FrameBody} (h : s.replicaLawful = true)
    (built : s.buildBody item = some body) : body.lawful = true := by
  obtain ⟨table, requests, -, -⟩ := s.replicaLawful_iff.mp h
  cases item with
  | evict t => exact Option.some.inj built ▸ rfl
  | resync => exact Option.some.inj built ▸ rfl
  | presence => exact Option.some.inj built ▸ rfl
  | snapshot =>
    obtain ⟨p, -, rfl⟩ := Option.map_eq_some_iff.mp built
    exact TableUnit.content_lawful p table
  | request tag =>
    cases queue : s.hp.queue with
    | nil => rw [State.buildBody, queue] at built; cases built
    | cons r rest =>
      have law := requests r (queue ▸ List.mem_cons_self)
      rw [State.buildBody, queue] at built
      change s.buildRequest r.body = some body at built
      unfold State.buildRequest at built
      split at built
      case h_8 =>
        dsimp only at built
        split at built
        · obtain ⟨g, -, rfl⟩ := Option.map_eq_some_iff.mp built
          rfl
        · cases built
      case h_7 request => rw [request] at law; exact Option.some.inj built ▸ law
      all_goals exact Option.some.inj built ▸ rfl

theorem State.requestBodies_marked (item : Item) {q : List Request} (law : ∀ r ∈ q, r.body.lawful = true) :
    ∀ r ∈ item.marked q, r.body.lawful = true := by
  cases item with
  | request tag =>
    cases q with
    | nil => exact law
    | cons r rest =>
      obtain ⟨head, tail⟩ := List.forall_mem_cons.mp law
      exact List.forall_mem_cons.mpr ⟨head, tail⟩
  | evict | resync | snapshot | presence => exact law

theorem State.requestBodies_of_shortens {old new : List Request} (shorter : Shortens old new)
    (law : ∀ r ∈ old, r.body.lawful = true) : ∀ r ∈ new, r.body.lawful = true := by
  obtain ⟨mark, marks, sub⟩ := shorter
  intro r mem
  obtain ⟨q, before, rfl⟩ := List.mem_map.mp (sub.subset mem)
  rw [(marks q).2.1]
  exact law q before

theorem State.replicaLawful_startAttempt {s : State} {item : Item} {body : FrameBody} (built : s.buildBody item = some body)
    (h : s.replicaLawful = true) : (s.startAttempt item body).replicaLawful = true := by
  rw [State.startAttempt_eq]
  refine State.replicaLawful_of (s := s) id (State.requestBodies_marked item) (fun _ a start => ?_) (fun _ _ none => nomatch none) h
  obtain rfl := Option.some.inj start
  exact State.buildBody_lawful h built

theorem State.replicaLawful_portRestart {s : State} (h : s.replicaLawful = true) : s.portRestart.replicaLawful = true := by
  refine State.replicaLawful_of (s := s) (t := s.portRestart) (fun _ => TableUnit.lawful_resetValue) (fun _ r mem => ?_)
    (fun _ _ none => nomatch none) (fun slot x held => ?_) h
  · have empty : s.portRestart.hp.queue = [] := State.indicate_hp_queue _ _
    rw [empty] at mem
    cases mem
  · change s.slotAtRestart = some x at held
    unfold State.slotAtRestart at held
    split at held
    · obtain ⟨y, before, rfl⟩ := Option.map_eq_some_iff.mp held
      exact slot y before
    · cases held

theorem State.kept_replicaLawful : State.Kept (fun s => s.replicaLawful = true) True where
  count n :=
    { shell := fun au tu _ ss hp h => by rw [State.replicaLawful, au, tu, ss, hp]; exact h
      unit := fun {s} f _ heard h => by
        refine State.replicaLawful_of (s := s) id id id (fun law x held => ?_) h
        rcases heard with none | same
        · exact nomatch none.symm.trans held
        · exact law x (same.symm.trans held)
      life := fun _ _ h => h
      attempt := fun {s} f frames h => by
        refine State.replicaLawful_of (s := s) id id (fun law a held => ?_) id h
        obtain ⟨b, before, same⟩ := frames a held
        exact same ▸ law b before
      records := fun {s} f queue _ _ h =>
        State.replicaLawful_of (s := s) id (fun law => by rw [State.onHp_hp, queue]; exact law) id id h
      queue := fun {s} _ shorter h =>
        State.replicaLawful_of (s := s) id (State.requestBodies_of_shortens shorter) id id h
      indicate := fun {s} r h =>
        State.replicaLawful_of (s := s) id (fun law => by rw [State.indicate_hp_queue]; exact law) id id h
      enqueue := fun {s body tag} may h => by
        refine State.replicaLawful_of (s := s) id (fun law r mem => ?_) id id h
        rcases List.mem_append.mp mem with before | last
        · exact law r before
        · exact List.mem_singleton.mp last ▸ may.lawful
      start := fun built h => State.replicaLawful_startAttempt built h
      ownHeard := fun {s a} held h => by
        refine State.replicaLawful_of (s := s) id id id (fun _ x heard => ?_) h
        obtain rfl := Option.some.inj heard
        exact (s.replicaLawful_iff.mp h).2.2.1 a held
      peerHeard := fun {s} chars h => by
        refine State.replicaLawful_of (s := s) id id id (fun _ x heard => ?_) h
        obtain rfl := Option.some.inj heard
        exact classify_lawful chars
      table := fun {s} _ law h => State.replicaLawful_of (s := s) (law trivial) id id id h
      order := fun {s} g _ heard h => by
        refine State.replicaLawful_of (s := s) id id id (fun law x held => ?_) h
        rcases heard with none | same
        · exact nomatch none.symm.trans held
        · exact law x (same.symm.trans held) }
  reset {s} straps h := State.replicaLawful_of (s := s) (fun _ => TableUnit.lawful_resetValue) (fun _ _ mem => nomatch mem)
    (fun _ _ none => nomatch none) (fun _ _ none => nomatch none) h
  restart h := State.replicaLawful_portRestart h
  rewind h := h
  window {s} h := by
    have queue : s.hp.advance.queue = s.hp.queue := s.hp.advance_queue
    exact State.replicaLawful_of (s := s) id (fun law => (queue ▸ law : ∀ r ∈ s.hp.advance.queue, _)) id id h
  frames {s x f} _ h heard good := by
    have law := (s.replicaLawful_iff.mp h).2.2.2 x heard
    rw [good] at law
    exact law

/-- Settles O57: the laws of the replica's records are kept by every primitive update, with those of the frames and requests
that can change it. -/
theorem replicaStaysLawful : Obligations.ReplicaStaysLawful := fun _ _ h runs => State.kept_replicaLawful.step runs h

end Sys2Proof.Machine
end

section
/-!
SUPPORT. The stations that the replica of an IN STEP station names are in its roster (R57): each effect of an equal frame names
none but its MEMBER sender, and a departure leaves the departed station named nowhere.
-/

namespace Sys2Proof.Machine

/-! ## The stations a replica names -/

/-- Every holder, waiter and arrived station has an entry that is not ABSENT. -/
def TableUnit.Listed (u : TableUnit) : Prop :=
  (∀ (l : LockNo) (t : Station), u.locks[l].names t → u.roster[t].standing ≠ .absent) ∧
    ∀ (b : BarrierNo) (t : Station), hasStation u.barriers[b].arrived t = true → u.roster[t].standing ≠ .absent

theorem State.namesListed_iff (s : State) : s.namesListed = true ↔ s.tu.Listed := by
  have lock (r : LockRecord) : (r.holder.all (fun h => s.standing h != .absent) &&
      r.waiters.all (fun w => s.standing w != .absent)) = true ↔ ∀ t, r.names t → s.standing t ≠ .absent := by
    obtain ⟨holder, waiters⟩ := r
    cases holder <;> simp [LockRecord.names, or_imp, forall_and]
  have barrier (b : BarrierRecord) : (allStations.all (fun t => !hasStation b.arrived t || s.standing t != .absent)) = true ↔
      ∀ t, hasStation b.arrived t = true → s.standing t ≠ .absent := by
    simp [mem_allStations, imp_iff_not_or]
  rw [State.namesListed, Bool.and_eq_true, vector_all_iff, vector_all_iff]
  exact and_congr (forall_congr' fun l => lock s.tu.locks[l]) (forall_congr' fun b => barrier s.tu.barriers[b])

/-- What the property depends on. -/
theorem TableUnit.Listed.mono {u v : TableUnit} (listed : u.Listed)
    (roster : ∀ t : Station, u.roster[t].standing ≠ .absent → v.roster[t].standing ≠ .absent)
    (locks : ∀ (l : LockNo) t, v.locks[l].names t → u.locks[l].names t ∨ v.roster[t].standing ≠ .absent)
    (barriers : ∀ (b : BarrierNo) t, hasStation v.barriers[b].arrived t = true →
      hasStation u.barriers[b].arrived t = true ∨ v.roster[t].standing ≠ .absent) : v.Listed := by
  refine ⟨fun l t named => ?_, fun b t named => ?_⟩
  · rcases locks l t named with before | here
    · exact roster t (listed.1 l t before)
    · exact here
  · rcases barriers b t named with before | here
    · exact roster t (listed.2 b t before)
    · exact here

/-- A property of the replica alone. -/
theorem State.robust_listed : State.Robust (fun s => s.tu.Listed) := State.robust_of_fields (fun _ u => u.Listed)

theorem State.listed_setEntry {s : State} (t : Station) {e : RosterEntry}
    (kept : s.standing t ≠ .absent → e.standing ≠ .absent) (listed : s.tu.Listed) : (s.setEntry t e).tu.Listed := by
  refine listed.mono (fun k here => ?_) (fun _ _ => .inl) (fun _ _ => .inl)
  change (s.setEntry t e).standing k ≠ .absent
  rw [State.standing_setEntry]
  split
  · next same => subst same; exact kept here
  · exact here

/-- Under one roster, an effect that names a listed station keeps the property. -/
theorem State.robustItems_listed (roster : Vector RosterEntry 16) :
    State.RobustItems (fun s => s.tu.Listed ∧ s.tu.roster = roster) True (fun t => roster[t].standing ≠ .absent) where
  toRobust := State.robust_of_fields (fun _ u => u.Listed ∧ u.roster = roster)
  lock {s} l r _ names h := by
    refine ⟨h.1.mono (fun _ here => here) (fun k t named => ?_) (fun _ _ => .inl), h.2⟩
    change ((s.setLock l r).lock k).names t at named
    rw [State.lock_setLock] at named
    split at named
    · next same =>
      subst same
      exact (names t named).imp id (fun here => by rw [State.setLock_tu_roster]; exact h.2 ▸ here)
    · exact .inl named
  barrier {s} b r _ names h := by
    refine ⟨h.1.mono (fun _ here => here) (fun _ _ => .inl) (fun k t named => ?_), h.2⟩
    change hasStation ((s.setBarrier b r).barrier k).arrived t = true at named
    rw [State.barrier_setBarrier] at named
    split at named
    · next same =>
      subst same
      exact (names t named).imp id (fun here => by rw [State.setBarrier_tu_roster]; exact h.2 ▸ here)
    · exact .inl named
  word _ _ h := h

/-! ## The effects of an equal frame at an IN STEP station -/

section
variable {s : State} {gone : Station}

theorem State.hasInstalled_of_all (all : s.tu.installed = allPartsSet) (p : PartNo) : s.hasInstalled p = true := by
  by_contra lacks
  exact (ne_allPartsSet_iff s.tu.installed).mpr ⟨p, by simpa [State.hasInstalled] using lacks⟩ all

/-- A departure leaves a lawful lock that names whom it named, but for the departed station (R9). -/
theorem State.names_lockLeft (lawful : s.tu.lawful = true) (all : s.tu.installed = allPartsSet) {l : LockNo} {t : Station}
    (named : (s.lockLeft gone l).names t) : t ≠ gone ∧ (s.lock l).names t := by
  obtain ⟨nodup, _, _, apart⟩ := LockRecord.lawful_iff.mp (((TableUnit.lawful_iff s.tu).mp lawful).1 l)
  change (s.lock l).waiters.Nodup at nodup
  unfold State.lockLeft at named
  rw [if_pos (State.hasInstalled_of_all all _)] at named
  split at named
  · next held =>
    have outside : gone ∉ (s.lock l).waiters := apart gone held
    split at named
    · simp [LockRecord.names] at named
    · next w rest waiters =>
      have waits : t ∈ (s.lock l).waiters := by
        rw [waiters, List.mem_cons]
        exact named.imp (fun holder => (Option.some.inj holder).symm) id
      exact ⟨fun same => outside (same ▸ waits), .inr waits⟩
  · next unheld =>
    rcases named with holder | waits
    · exact ⟨fun same => unheld (same ▸ holder), .inl holder⟩
    · obtain ⟨other, before⟩ := nodup.mem_erase_iff.mp waits
      exact ⟨other, .inr before⟩

theorem State.depart_of_lost (peer : Indication) (wasInStep : Bool)
    (lost : noMember (s.tu.roster.set gone absentEntry) = true) : (s.depart gone peer wasInStep).station = .outside := by
  have effect : s.depart gone peer wasInStep = ((s.setEntry gone absentEntry).setSilence gone .cleared).loseCluster :=
    if_pos lost
  rw [effect]
  rfl

/-- The departure of a peer leaves it named nowhere (R57). -/
theorem State.listed_depart (other : gone ≠ s.me) (lawful : s.tu.lawful = true) (all : s.tu.installed = allPartsSet)
    (peer : Indication) (wasInStep : Bool) (left : noMember (s.tu.roster.set gone absentEntry) = false)
    (listed : s.tu.Listed) : (s.depart gone peer wasInStep).tu.Listed := by
  have tu : (s.depart gone peer wasInStep).tu = { s.departTu gone with roster := s.tu.roster.set gone absentEntry } := by
    rw [s.depart_eq other peer wasInStep left]; rfl
  have stays {t : Station} (apart : t ≠ gone) (here : s.standing t ≠ .absent) :
      (s.tu.roster.set gone absentEntry)[t].standing ≠ .absent := by
    rw [Fin.getElem_fin, Vector.getElem_set_ne _ _ fun same => apart (Fin.ext same.symm)]
    exact here
  rw [tu]
  refine ⟨fun l t named => ?_, fun b t named => ?_⟩
  · have record : (s.departTu gone).locks[l] = s.lockLeft gone l := by simp [State.departTu]
    obtain ⟨apart, before⟩ := State.names_lockLeft lawful all (record ▸ named : (s.lockLeft gone l).names t)
    exact stays apart (listed.1 l t before)
  · have record : (s.departTu gone).barriers[b] = if s.brokenBy gone b then (s.barrier b).nextUse else s.barrier b := by
      simp [State.departTu]
    have named : hasStation (s.departTu gone).barriers[b].arrived t = true := named
    rw [record] at named
    split at named
    · simp [BarrierRecord.nextUse, hasStation] at named
    · next whole =>
      refine stays (fun same => whole ?_) (listed.2 b t named)
      rw [State.brokenBy, State.hasInstalled_of_all all, Bool.true_and]
      exact same ▸ named

theorem State.listed_applyJoin (other : gone ≠ s.me) (lawful : s.tu.lawful = true) (all : s.tu.installed = allPartsSet)
    (wasInStep : Bool) (listed : s.tu.Listed) (stays : (s.applyJoin gone wasInStep).station = .inStep) :
    (s.applyJoin gone wasInStep).tu.Listed := by
  have joining {t : State} (listed : t.tu.Listed) : (t.setEntry gone joiningEntry).tu.Listed :=
    State.listed_setEntry gone (fun _ => by decide) listed
  revert stays
  unfold State.applyJoin
  split
  · exact fun _ => State.robust_listed.hearSilence _ (State.robust_listed.indicateIf _ _ (joining listed))
  · dsimp only
    split
    · next lost => exact fun stays => absurd ((s.depart_of_lost _ _ lost).symm.trans stays) (by decide)
    · next left =>
      exact fun _ => State.robust_listed.hearSilence _
        (joining (State.listed_depart other lawful all _ _ (Bool.not_eq_true _ ▸ left) listed))

/-- A LEAVE and an EVICT are the departure of a station in the roster. -/
theorem State.listed_departs (other : gone ≠ s.me) (lawful : s.tu.lawful = true) (all : s.tu.installed = allPartsSet)
    (peer : Indication) (wasInStep : Bool) (listed : s.tu.Listed)
    (stays : (if s.standing gone = .absent then s else s.depart gone peer wasInStep).station = .inStep) :
    (if s.standing gone = .absent then s else s.depart gone peer wasInStep).tu.Listed := by
  revert stays
  split
  · exact fun _ => listed
  · intro stays
    cases left : noMember (s.tu.roster.set gone absentEntry) with
    | true => exact absurd ((s.depart_of_lost _ _ left).symm.trans stays) (by decide)
    | false => exact State.listed_depart other lawful all _ _ left listed

theorem State.listed_applyResync (sender : Station) (wasInStep : Bool) (listed : s.tu.Listed)
    (stays : (s.applyResync sender wasInStep).station = .inStep) : (s.applyResync sender wasInStep).tu.Listed := by
  revert stays
  unfold State.applyResync
  dsimp only
  split
  · exact fun stays => nomatch (stays : StationState.outside = .inStep)
  · intro _
    have joining : (s.setEntry sender joiningEntry).tu.Listed := State.listed_setEntry sender (fun _ => by decide) listed
    have items := State.robustItems_listed (s.setEntry sender joiningEntry).tu.roster
    exact (List.foldlRecOn (motive := fun t : State => t.tu.Listed ∧ t.tu.roster = _) allBarriers _
      (items.indicateIf _ _ ⟨joining, rfl⟩) fun t kept b _ => items.breakBarrier sender b (s := t) kept).1

theorem RosterEntry.gain_listed (p : PartNo) {e : RosterEntry} (listed : e.standing ≠ .absent) :
    (e.gain p).standing ≠ .absent := by
  unfold RosterEntry.gain
  split
  · split <;> exact nofun
  · exact listed

theorem State.listed_applySnapshot (content : PartContent) (wasInStep : Bool) (station : s.station = .inStep)
    (listed : s.tu.Listed) : (s.applySnapshot content wasInStep).tu.Listed := by
  have roster : (s.rosterStep content.part wasInStep).tu.Listed :=
    List.foldlRecOn (motive := fun t : State => t.tu.Listed) allStations _ listed fun t kept k _ =>
      State.robust_listed.indicateIf _ _ (State.listed_setEntry k (s := t) (RosterEntry.gain_listed _) kept)
  have kept : s.applySnapshot content wasInStep = s.rosterStep content.part wasInStep := by
    refine if_neg fun installs => ?_
    obtain ⟨-, joining, -⟩ := installs
    exact absurd (station.symm.trans joining) (by decide)
  rw [kept]
  exact roster

/-- An equal frame's effect, where no own frame and no frame of a stranger makes this station depart. -/
theorem State.listed_applyFrame {f : Frame} (own : Bool) (tag : Octet) (station : s.station = .inStep)
    (lawful : s.tu.lawful = true) (all : s.tu.installed = allPartsSet) (listed : s.tu.Listed)
    (join : ∀ found, f.body = .join found → f.sender ≠ s.me) (leave : f.body = .leave → f.sender ≠ s.me)
    (evict : f.body = .evict s.me → s.standing f.sender ≠ .member) (law : f.lawful = true)
    (stays : (s.applyFrame own tag f).station = .inStep) : (s.applyFrame own tag f).tu.Listed := by
  have items := State.robustItems_listed s.tu.roster
  have here : s.tu.Listed ∧ s.tu.roster = s.tu.roster := ⟨listed, rfl⟩
  have member (standing : (s.standing f.sender == .member) = true) : s.tu.roster[f.sender].standing ≠ .absent := by
    rw [show s.tu.roster[f.sender].standing = .member from beq_iff_eq.mp standing]; decide
  have when {t : State} {c : Bool} (kept : c = true → t.station = .inStep → t.tu.Listed)
      (stays : (if c then t else s).station = .inStep) : (if c then t else s).tu.Listed := by
    cases c with
    | true => exact kept rfl stays
    | false => exact listed
  have both {c d : Bool} (h : (c && d) = true) : c = true := (Bool.and_eq_true _ _ ▸ h).1
  revert stays
  rw [State.applyFrame, if_pos (State.hasInstalled_of_all all 0)]
  cases body : f.body with
  | join found => exact State.listed_applyJoin (join found body) lawful all _ listed
  | leave => exact State.listed_departs (leave body) lawful all _ _ listed
  | presence => exact fun _ => listed
  | evict t =>
    refine when fun standing => State.listed_departs (fun same => ?_) lawful all _ _ listed
    exact evict (same ▸ body) (beq_iff_eq.mp standing)
  | resync => exact when fun _ => State.listed_applyResync _ _ listed
  | release l => exact when fun _ _ => (items.applyRelease _ _ _ _ here).1
  | withdraw l => exact when fun _ _ => (items.applyWithdraw _ _ _ _ here).1
  | claim l v => exact when fun standing _ => (items.applyClaim (member (both standing)) _ _ _ _ here).1
  | abandon b g => exact when fun _ _ => (items.applyAbandon _ _ _ _ _ here).1
  | arrive b n =>
    refine when fun standing _ => (items.applyArrive (member (both standing)) _ _ _ (fun _ => ?_) here).1
    simpa [Frame.lawful, body, FrameBody.lawful] using law
  | publish v => exact when fun _ _ => (items.applyPublish _ _ _ _ here).1
  | post t c => exact when fun _ _ => State.robust_listed.applyPost _ _ _ _ _ listed
  | snapshot content => exact when fun _ _ => State.listed_applySnapshot content _ station listed

end

/-! ## The end of a slot at a station that stays IN STEP -/

section
variable {s : State}

/-- A station that stays IN STEP through the own-state step took an equal frame that is none of its own leaving (R56, R83). -/
theorem State.takeOwnState_of_stays {own : Bool} {tag : Octet} {f : Frame} (station : s.station = .inStep)
    (stays : (s.takeOwnState (s.counting f) own tag f).station = .inStep) : s.counting f = .apply ∧
      s.takeOwnState (s.counting f) own tag f = s ∧ ¬ (own = true ∧ f.body = .leave) ∧
      (f.body = .evict s.me → s.standing f.sender ≠ .member) := by
  have counting : s.counting f = if f.order = s.au.order then .apply else .diverge := by
    rw [State.counting, station]
  by_cases equal : f.order = s.au.order
  · rw [counting, if_pos equal] at stays ⊢
    refine ⟨rfl, ?_⟩
    change (s.takeNamed own tag f).station = .inStep at stays
    change s.takeNamed own tag f = s ∧ _
    cases body : f.body with
    | leave =>
      have taken : s.takeNamed own tag f = if own ∧ s.station.hasStake then s.enterOutside .left tag else s := by
        rw [State.takeNamed, body]
      cases own with
      | true => rw [taken, if_pos ⟨rfl, by rw [station]; rfl⟩] at stays; exact nomatch (stays : StationState.outside = .inStep)
      | false => exact ⟨taken.trans (if_neg fun all => Bool.noConfusion all.1), fun all => Bool.noConfusion all.1, nofun⟩
    | evict t =>
      have taken : s.takeNamed own tag f = if t = s.me ∧ s.takesEvict f.sender then s.enterOutside .evicted 0 else s := by
        rw [State.takeNamed, body]
      by_cases evicted : t = s.me ∧ s.takesEvict f.sender = true
      · rw [taken, if_pos evicted] at stays; exact nomatch (stays : StationState.outside = .inStep)
      · refine ⟨taken.trans (if_neg evicted), nofun, fun same member => evicted ⟨FrameBody.evict.inj same, ?_⟩⟩
        rw [State.takesEvict, station]
        exact beq_iff_eq.mpr member
    | join found | resync =>
      refine ⟨?_, nofun, nofun⟩
      rw [State.takeNamed, body]
      exact if_neg fun all => absurd (station.symm.trans all.2) (by decide)
    | _ => exact ⟨by rw [State.takeNamed, body], nofun, nofun⟩
  · rw [counting, if_neg equal] at stays
    change ((s.enterDiverged .aheadFrame).takeNamed own tag f).station = .inStep at stays
    unfold State.takeNamed at stays
    exfalso
    have diverged : (s.enterDiverged .aheadFrame).station = .diverged := rfl
    split at stays
    · rw [if_neg fun all => absurd (diverged.symm.trans all.2) (by decide)] at stays
      exact nomatch (stays : StationState.diverged = .inStep)
    · split at stays
      · exact nomatch (stays : StationState.outside = .inStep)
      · exact nomatch (stays : StationState.diverged = .inStep)
    · split at stays
      · exact nomatch (stays : StationState.outside = .inStep)
      · exact nomatch (stays : StationState.diverged = .inStep)
    · split at stays
      · exact nomatch (stays : StationState.joining = .inStep)
      · exact nomatch (stays : StationState.diverged = .inStep)
    all_goals exact nomatch (stays : StationState.diverged = .inStep)

theorem State.sameBesidePort_settleRequest (s : State) : s.SameBesidePort s.settleRequest := by
  unfold State.settleRequest
  split
  · exact s.sameBesidePort_removeRequest _
  · exact .refl s

/-- What an accepted attempt's end leaves as it is. -/
theorem State.settleAccepted_frame (marked : Bool) (tag : Octet) (s : State) :
    (s.settleAccepted marked tag).tu = s.tu ∧ (s.settleAccepted marked tag).station = s.station := by
  cases marked <;> exact ⟨rfl, rfl⟩

/-- An accepted frame at a station that stays IN STEP (R87). -/
theorem State.listed_handAccepted {own : Bool} {f : Frame} (station : s.station = .inStep) (lawful : s.tu.lawful = true)
    (all : s.tu.installed = allPartsSet) (listed : s.tu.Listed) (law : f.lawful = true)
    (join : own = true → ∀ found, f.body ≠ .join found) (peer : own = false → f.sender ≠ s.me)
    (stays : (s.handAccepted own f).station = .inStep) : (s.handAccepted own f).tu.Listed := by
  have settled : ∃ t : State, (if own then s.settleRequest else s).setClusterKnown true = t ∧ t.tu = s.tu ∧ t.mc = s.mc ∧
      t.straps = s.straps := by
    cases own with
    | true => exact ⟨_, rfl, s.sameBesidePort_settleRequest.tu, s.sameBesidePort_settleRequest.mc,
        s.sameBesidePort_settleRequest.straps⟩
    | false => exact ⟨_, rfl, rfl, rfl, rfl⟩
  obtain ⟨t, settled, tu, mc, straps⟩ := settled
  have inStep : t.station = .inStep := (congrArg (·.state) mc).trans station
  obtain ⟨tag, applied⟩ : ∃ tag, (s.handAccepted own f).tu =
        (((t.takeOwnState (t.counting f) own tag f).hear own f).applyStep (t.counting f) t.station own tag f).tu ∧
      (s.handAccepted own f).station =
        (((t.takeOwnState (t.counting f) own tag f).hear own f).applyStep (t.counting f) t.station own tag f).station := by
    refine ⟨if own then s.attemptTag else 0, ?_⟩
    unfold State.handAccepted
    dsimp only
    rw [settled]
    cases own with
    | true => exact State.settleAccepted_frame _ _ _
    | false => exact ⟨rfl, rfl⟩
  rw [applied.2] at stays
  rw [applied.1]
  have heard (u : State) : (u.hear own f).station = u.station := by rw [State.hear_eq]; rfl
  by_cases kept : (t.takeOwnState (t.counting f) own tag f).station = .inStep
  · obtain ⟨counting, taken, leave, evict⟩ := State.takeOwnState_of_stays inStep kept
    have effect : (t.hear own f).applyStep .apply t.station own tag f = (t.hear own f).applyFrame own tag f :=
      if_pos (heard t)
    rw [taken, counting, effect] at stays ⊢
    have me : t.me = s.me := congrArg (·.station) straps
    rw [State.hear_eq] at stays ⊢
    refine State.listed_applyFrame own tag inStep (tu ▸ lawful) (tu ▸ all) (tu ▸ listed) (fun found body => ?_)
      (fun body => ?_) evict law stays
    · cases own with
      | true => exact absurd body (join rfl found)
      | false => exact me ▸ peer rfl
    · cases own with
      | true => exact absurd ⟨rfl, body⟩ leave
      | false => exact me ▸ peer rfl
  · have other : ((t.takeOwnState (t.counting f) own tag f).hear own f).station ≠ t.station := by
      rw [heard, inStep]; exact kept
    have skipped : ((t.takeOwnState (t.counting f) own tag f).hear own f).applyStep (t.counting f) t.station own tag f =
        (t.takeOwnState (t.counting f) own tag f).hear own f := if_neg other
    rw [skipped, heard] at stays
    exact absurd stays kept

/-- The parts of a consistent life that an own frame and the replica are read from. -/
theorem State.of_lifeConsistent (life : s.lifeConsistent = true) :
    s.ownHeardInHand = true ∧ s.attemptAdmitted = true ∧ s.replicaByState = true := by
  simp only [State.lifeConsistent, State.lineConsistent, Bool.and_eq_true] at life
  obtain ⟨⟨⟨⟨⟨-, ⟨⟨⟨-, hand⟩, -⟩, -⟩, -⟩, -⟩, admitted⟩, replica⟩, -⟩ := life
  exact ⟨hand, admitted, replica⟩

/-- The own frame in the slot of an IN STEP station is no JOIN (Table 7-2, R88). -/
theorem State.own_not_join {x : HeardFrame} {f : Frame} (life : s.lifeConsistent = true) (station : s.station = .inStep)
    (heard : s.au.heard = some x) (good : x.classification = .good f) (own : x.own = true) (found : Bool) :
    f.body ≠ .join found := by
  obtain ⟨hand, admitted, -⟩ := State.of_lifeConsistent life
  intro body
  rw [State.ownHeardInHand, heard] at hand
  rw [State.attemptAdmitted, station] at admitted
  cases attempt : s.ss.attempt with
  | none => simp [attempt, own] at hand
  | some a =>
    have same : x = ⟨.good a.frame, .none, true⟩ := by simpa [attempt, own, HeardFrame.isOwn] using hand
    have frame : f = a.frame := by rw [same] at good; exact (Classification.good.inj good).symm
    rw [attempt] at admitted
    simp [Attempt.admitted, ← frame, body] at admitted

/-- The end of a slot at a station that stays IN STEP. -/
theorem State.listed_closeSlot (seen : SlotSeen) (life : s.lifeConsistent = true) (replica : s.replicaLawful = true)
    (station : s.station = .inStep) (listed : s.tu.Listed) (stays : (s.closeSlot seen).station = .inStep) :
    (s.closeSlot seen).tu.Listed := by
  obtain ⟨lawful, -, -, slot⟩ := s.replicaLawful_iff.mp replica
  have all : s.tu.installed = allPartsSet := by
    obtain ⟨-, -, byState⟩ := State.of_lifeConsistent life
    rw [State.replicaByState, station] at byState
    exact beq_iff_eq.mp (Bool.and_eq_true _ _ ▸ byState).1
  revert stays
  unfold State.closeSlot
  split
  swap
  · exact fun _ => listed
  split
  swap
  · exact fun _ => listed
  next x heard =>
  split
  · exact fun stays => nomatch (stays : StationState.halted = .inStep)
  unfold State.takeOutcome
  split
  · cases good : x.classification with
    | badCheck | malformed => exact fun _ => listed
    | good f =>
      have law : f.lawful = true := by have law := slot x heard; rwa [good] at law
      intro stays
      change (if s.endSlot.station.testsDuplicate ∧ f.sender = s.endSlot.me ∧ !x.own
        then s.endSlot.enterHalted .duplicateStation else s.endSlot.handAccepted x.own f).station = .inStep at stays
      change (if s.endSlot.station.testsDuplicate ∧ f.sender = s.endSlot.me ∧ !x.own
        then s.endSlot.enterHalted .duplicateStation else s.endSlot.handAccepted x.own f).tu.Listed
      by_cases duplicate : s.endSlot.station.testsDuplicate = true ∧ f.sender = s.endSlot.me ∧ (!x.own) = true
      · rw [if_pos duplicate] at stays
        exact nomatch (stays : StationState.halted = .inStep)
      · rw [if_neg duplicate] at stays ⊢
        refine State.listed_handAccepted (s := s.endSlot) station lawful all listed law
          (fun own => State.own_not_join life station heard good own) (fun peer same => duplicate ⟨?_, same, ?_⟩) stays
        · change s.station.testsDuplicate = true
          rw [station]; rfl
        · rw [peer]; rfl
  · split
    · exact fun _ => State.robust_listed.failAttempt (s := s.endSlot) listed
    · exact fun _ => listed
  · split
    · next f _ _ =>
      intro stays
      have inStep : (s.endSlot.setYield.loseAttempt.setOrderHold true).station = .inStep :=
        (congrArg (·.state) (State.sameBesidePort_loseAttempt s.endSlot.setYield).mc).trans station
      have diverged : s.endSlot.orderAttempt f = (s.endSlot.setYield.loseAttempt.setOrderHold true).divergedBy .orderObjected :=
        (State.actOnOrder_cases f _).1 inStep
      rw [diverged] at stays
      exact nomatch (stays : StationState.diverged = .inStep)
    · exact fun _ => listed

end

/-- Settles O59: outside the end of a slot the replica of a station that stays IN STEP is as it was, and at the end of a slot
each frame's effect names its MEMBER sender at most, and a departure unnames the station that departs. -/
theorem namedStationsListed : Obligations.NamedStationsListed := by
  intro s t life replica station listed runs stays
  rw [State.namesListed_iff] at listed ⊢
  unfold step at runs
  split at runs
  · exact Host.Outcome.next.inj runs ▸
      State.RobustTable.unlessReset (P := fun t => t.tu.Listed) (State.robust_listed.winHead listed) listed
  next c rest _ =>
  by_cases slot : ∃ seen, c = .slotWindowEnd seen
  · obtain ⟨seen, rfl⟩ := slot
    obtain rfl := Host.Outcome.next.inj runs
    revert stays
    unfold State.unlessReset
    split
    · exact fun _ => listed
    · exact State.listed_closeSlot (s := { s with pending := rest }) seen life replica station listed
  · rcases exec_tu c _ t runs (fun seen same => slot ⟨seen, same⟩) with same | ⟨-, discarded⟩
    · rw [same]; exact listed
    · rw [stays] at discarded
      exact absurd discarded (by decide)

end Sys2Proof.Machine
end
